-- ==== Sys2Proof/Word.lean ====
section
/-! DEFINITION. The byte, the only word that crosses the wire or is stored in a buffer (spec/20_memory.md R55, R56). -/

namespace Sys2Proof

/-- A byte: 8 bits, an unsigned number 0 to 255 (spec/00_scope.md R8). -/
abbrev Byte := BitVec 8

end Sys2Proof
end

