-- ==== Sys2Proof/Config.lean ====
section
/-! DEFINITION. The build-time parameters of the block (spec/00_scope.md R6) and the free values of the model. -/

namespace Sys2Proof

/-- The configuration record: fixed when the block is built, constant for its life (R6). Field names are the
spec's, in lower camel case. -/
structure Config where
  /-- `MSS`, the most payload bytes in one frame. -/
  mss : Nat
  /-- `LW`, the width in bits of payload lengths and offsets. -/
  lw : Nat
  /-- `TW`, the width in bits of `timeout` and `elapsed`. -/
  tw : Nat
  /-- `T_INIT`, the timeout at the start of a session, in ticks. -/
  tInit : Nat
  /-- `T_STEP`, what a clean delivery takes off the timeout. -/
  tStep : Nat
  /-- `T_MIN`, the floor of the timeout. -/
  tMin : Nat
  /-- `T_MAX`, the ceiling of the timeout. -/
  tMax : Nat
  /-- `ECHO_LEN`, the whole length of a received frame taken as an echo request. -/
  echoLen : Nat
  /-- `DATA_ACKNUM`, the acknum byte of every data frame. -/
  dataAcknum : Byte
deriving DecidableEq, Repr

namespace Config

/-- `FAIL_LIMIT`: failures of one segment that trigger a doubling; fixed, not a parameter (R6). -/
def failLimit : Nat := 3

/-- The default column of R6. -/
def defaults : Config where
  mss := 250
  lw := 16
  tw := 16
  tInit := 100
  tStep := 5
  tMin := 20
  tMax := 500
  echoLen := 6
  dataAcknum := 0x00

/-- The constraint column of R6. A record that breaks one is no build of this block and is refused
(spec/70_reset_and_hazards.md R203, spec/93_implementation_defined.md I3). -/
abbrev Valid (c : Config) : Prop :=
  1 ≤ c.mss ∧ c.mss ≤ 2 ^ c.lw - 4 ∧ 2 ≤ c.lw ∧ 3 + c.mss < 2 ^ c.lw ∧ 2 * c.tMax < 2 ^ c.tw ∧
    c.tMin ≤ c.tInit ∧ c.tInit ≤ c.tMax ∧ 1 ≤ c.tStep ∧ 1 ≤ c.tMin ∧ 3 ≤ c.echoLen

/-- Free value: the byte the payload buffer holds at an address the host has written nothing to
(spec/93_implementation_defined.md I12, an oracle). Log 10. -/
opaque unwrittenByte : Nat → Byte

/-- Free value: what `PayRead` answers at an address at or beyond `payload_len`, where R50 does not define it.
Log 10. -/
opaque beyondPayload : Nat → Byte

/-- Free value: the bytes `RESET` leaves in `pending_frame` (spec/10_state.md R37, "unspecified"); drawn by the
counter `State.freeCount`. Log 9. -/
opaque freeByte : Nat → Byte

end Config

end Sys2Proof
end

