-- ==== Sys2Proof/Syntax.lean ====
section
/-! DEFINITION. The operations of the block, one constructor per row of spec/opcode_table.json
(spec/30_encoding.md R78, R79, R85), and the items the environment offers. -/

namespace Sys2Proof

/-- The closed set of operations. The operand `MSS` of `FR_SPLIT` and `FR_NEXT_SEQNUM` is the configuration
constant (table: "constant"), so it is no field here. -/
inductive Instr where
  /-- `RESET`, R200. -/
  | reset
  /-- `START(L, isn)`, R140. -/
  | start (len : Nat) (isn : Byte)
  /-- `RX(F)`, R146. -/
  | rx (frame : List Byte)
  /-- `TICK`, R158 and R132. -/
  | tick
  /-- `XMIT`, R143. -/
  | xmit
  /-- `NEXT`, R160. -/
  | next
  /-- `CK_COMPUTE(B)`, R90. -/
  | ckCompute (bytes : List Byte)
  /-- `CK_VERIFY(F)`, R91. -/
  | ckVerify (frame : List Byte)
  /-- `FR_SPLIT(off, L, MSS)`, R100. -/
  | frSplit (off len : Nat)
  /-- `FR_NEXT_SEQNUM(prev, chunk_len, MSS)`, R102. -/
  | frNextSeqnum (prev : Byte) (chunkLen : Nat)
  /-- `FR_BUILD(seqnum, acknum, chunk)`, R104. -/
  | frBuild (seqnum acknum : Byte) (chunk : List Byte)
  /-- `FR_PARSE(F)`, R107. -/
  | frParse (frame : List Byte)
  /-- `TM_INIT`, R121. -/
  | tmInit
  /-- `TM_CLEAN`, R123. -/
  | tmClean
  /-- `TM_FAIL`, R125. -/
  | tmFail
  /-- `TM_EXHAUSTED`, R127. -/
  | tmExhausted
  /-- `TM_ARM`, R130. -/
  | tmArm
  /-- `TM_TICK`, R132. -/
  | tmTick
  /-- `ENG_CLASSIFY(F)`, R148. -/
  | engClassify (frame : List Byte)
  /-- `ENG_FAIL`, R150. -/
  | engFail
  /-- The arm `RX.CORRUPT`, R151. -/
  | rxCorrupt (frame : List Byte)
  /-- The arm `RX.GOOD`, R152. -/
  | rxGood (frame : List Byte)
  /-- The arm `RX.STALE`, R154. -/
  | rxStale (frame : List Byte)
  /-- The arm `RX.OOO`, R156. -/
  | rxOoo (frame : List Byte)
  /-- The arm `TICK.TIMEOUT`, R158. -/
  | tickTimeout
  /-- `FRAME.DATA`, R71: a frame on the transmit port. -/
  | frameData (checksum acknum seqnum : Byte) (payload : List Byte)
  /-- `FRAME.ACK`, R72: a frame on the receive port. -/
  | frameAck (checksum acknum seqnum : Byte) (payload : List Byte)
deriving DecidableEq, Repr

/-- The kind column of R78 and R79; `wire` for the two layouts of R85. -/
inductive Kind where
  | event
  | step
  | sub
  | arm
  | wire
deriving DecidableEq, Repr

/-- The kind of an operation (R78, R79, R85). -/
def Instr.kind : Instr → Kind
  | .reset => .event
  | .start _ _ => .event
  | .rx _ => .event
  | .tick => .event
  | .xmit => .step
  | .next => .step
  | .ckCompute _ => .sub
  | .ckVerify _ => .sub
  | .frSplit _ _ => .sub
  | .frNextSeqnum _ _ => .sub
  | .frBuild _ _ _ => .sub
  | .frParse _ => .sub
  | .tmInit => .sub
  | .tmClean => .sub
  | .tmFail => .sub
  | .tmExhausted => .sub
  | .tmArm => .sub
  | .tmTick => .sub
  | .engClassify _ => .sub
  | .engFail => .sub
  | .rxCorrupt _ => .arm
  | .rxGood _ => .arm
  | .rxStale _ => .arm
  | .rxOoo _ => .arm
  | .tickTimeout => .arm
  | .frameData _ _ _ _ => .wire
  | .frameAck _ _ _ _ => .wire

/-- Where a word stands: an operation offered by its code, or a datagram on the wire in one of its two
directions. "Direction alone tells them apart" (R83). -/
inductive Port where
  | command
  | receive
  | transmit
deriving DecidableEq, Repr

/-- One happening of the schedule `State.script`. DESIGN CHOICE, log 1.
`word`: bytes at a port, one operation or one datagram, bounded by the item as a datagram is (R73).
`hostWrite`: the host puts a byte into its payload buffer (spec/20_memory.md R51); log 20, log 28.
`missed`: a pulse that had no step when it was offered. It is not latched (spec/60_exceptions.md R176), so nothing
accepts it later, and it is not absorbed (spec/00_scope.md R12); log 15. -/
inductive Item where
  | word (port : Port) (bytes : List Byte)
  | hostWrite (addr : Nat) (value : Byte)
  | missed
deriving DecidableEq, Repr

end Sys2Proof
end

