-- ==== Sys2Proof/WellFormed.lean ====
section
/-! DEFINITION. Which operations have operands that fit the build (spec/30_encoding.md R78, spec/00_scope.md R6). -/

namespace Sys2Proof

/-- An operation's operands fit: a length or an offset has `LW` bits (R78, table), a chunk has at most `MSS` bytes
(R104), a data frame carries 1 to `MSS` bytes (R71), an ACK frame 0 to `MSS` (R72). A received byte string has any
length (R82, spec/10_state.md R42), so the operations that take one have no ill-formed form. -/
def Instr.wf (c : Config) : Instr → Bool
  | .start len _ => decide (len < 2 ^ c.lw)
  | .frSplit off len => decide (off < 2 ^ c.lw) && decide (len < 2 ^ c.lw)
  | .frNextSeqnum _ chunkLen => decide (chunkLen < 2 ^ c.lw)
  | .frBuild _ _ chunk => decide (chunk.length ≤ c.mss)
  | .frameData _ _ _ payload => decide (1 ≤ payload.length) && decide (payload.length ≤ c.mss)
  | .frameAck _ _ _ payload => decide (payload.length ≤ c.mss)
  | .reset => true
  | .rx _ => true
  | .tick => true
  | .xmit => true
  | .next => true
  | .ckCompute _ => true
  | .ckVerify _ => true
  | .frParse _ => true
  | .tmInit => true
  | .tmClean => true
  | .tmFail => true
  | .tmExhausted => true
  | .tmArm => true
  | .tmTick => true
  | .engClassify _ => true
  | .engFail => true
  | .rxCorrupt _ => true
  | .rxGood _ => true
  | .rxStale _ => true
  | .rxOoo _ => true
  | .tickTimeout => true

end Sys2Proof
end

