-- ==== Sys2Proof/Decode.lean ====
section
/-! DEFINITION. From bytes at a port to an operation, and back (spec/30_encoding.md R70 to R74, R78, R79, R85). The
8-bit codes and the wire layouts are the spec's; the bytes of operands on the command port are this model's, since no
table gives them any (log 2). -/

namespace Sys2Proof

/-- Why an item decodes to nothing. `reservedCode` is R84's "every operation code not in rule R78"; the rest are
forms of the model's own operand layout (log 2) and lengths that no data frame has (R71). -/
inductive DecodeError where
  /-- No byte on the command port, so no code. -/
  | noCode
  /-- A code outside R78 and R85. -/
  | reservedCode (code : Byte)
  /-- The code's operands have another number of bytes. -/
  | operandLength (code : Byte)
  /-- A datagram on the transmit port whose length no data frame has (R71). -/
  | notADataFrame
deriving DecidableEq, Repr

/-- How many bytes hold a number of `LW` bits in an item of the schedule. DESIGN CHOICE, log 2. -/
def Config.lenBytes (c : Config) : Nat := (c.lw + 7) / 8

/-- A number from its bytes, least significant byte first. DESIGN CHOICE, log 2. -/
def ofBytes : List Byte → Nat
  | [] => 0
  | b :: bs => b.toNat + 256 * ofBytes bs

/-- The low `8 * k` bits of a number as `k` bytes, least significant byte first. -/
def toBytes : Nat → Nat → List Byte
  | 0, _ => []
  | k + 1, n => BitVec.ofNat 8 n :: toBytes k (n / 256)

/-- An operation without operands. -/
def bare (code : Byte) (rest : List Byte) (i : Instr) : Except DecodeError Instr :=
  match rest with
  | [] => .ok i
  | _ :: _ => .error (.operandLength code)

/-- `START`: `L` in `lenBytes` bytes, then `isn` (operand order of R78). -/
def decodeStart (c : Config) (rest : List Byte) : Except DecodeError Instr :=
  match rest.drop c.lenBytes with
  | [isn] => .ok (.start (ofBytes (rest.take c.lenBytes)) isn)
  | _ => .error (.operandLength 0x01)

/-- `FR_SPLIT`: `off`, then `L`, `lenBytes` bytes each. -/
def decodeSplit (c : Config) (rest : List Byte) : Except DecodeError Instr :=
  if rest.length = c.lenBytes + c.lenBytes then
    .ok (.frSplit (ofBytes (rest.take c.lenBytes)) (ofBytes (rest.drop c.lenBytes)))
  else
    .error (.operandLength 0x30)

/-- `FR_NEXT_SEQNUM`: `prev`, then `chunk_len` in `lenBytes` bytes. -/
def decodeNextSeqnum (c : Config) (rest : List Byte) : Except DecodeError Instr :=
  match rest with
  | prev :: len => if len.length = c.lenBytes then .ok (.frNextSeqnum prev (ofBytes len)) else .error (.operandLength 0x31)
  | [] => .error (.operandLength 0x31)

/-- `FR_BUILD`: `seqnum`, `acknum`, then the chunk to the end of the item. -/
def decodeBuild (rest : List Byte) : Except DecodeError Instr :=
  match rest with
  | seqnum :: acknum :: chunk => .ok (.frBuild seqnum acknum chunk)
  | _ => .error (.operandLength 0x32)

/-- The code map of R78 and R85. A byte string operand is the rest of the item (its length is the item's, as a
frame's is its datagram's, R73). -/
def decodeCommand (c : Config) (code : Byte) (rest : List Byte) : Except DecodeError Instr :=
  match code.toNat with
  | 0x00 => bare code rest .reset
  | 0x01 => decodeStart c rest
  | 0x02 => .ok (.rx rest)
  | 0x03 => bare code rest .tick
  | 0x10 => bare code rest .xmit
  | 0x11 => bare code rest .next
  | 0x20 => .ok (.ckCompute rest)
  | 0x21 => .ok (.ckVerify rest)
  | 0x30 => decodeSplit c rest
  | 0x31 => decodeNextSeqnum c rest
  | 0x32 => decodeBuild rest
  | 0x33 => .ok (.frParse rest)
  | 0x40 => bare code rest .tmInit
  | 0x41 => bare code rest .tmClean
  | 0x42 => bare code rest .tmFail
  | 0x43 => bare code rest .tmExhausted
  | 0x44 => bare code rest .tmArm
  | 0x45 => bare code rest .tmTick
  | 0x50 => .ok (.engClassify rest)
  | 0x51 => bare code rest .engFail
  | 0x60 => .ok (.rxCorrupt rest)
  | 0x61 => .ok (.rxGood rest)
  | 0x62 => .ok (.rxStale rest)
  | 0x63 => .ok (.rxOoo rest)
  | 0x64 => bare code rest .tickTimeout
  | _ => .error (.reservedCode code)

/-- A datagram on the receive port: an ACK frame where its length is a frame's (R70, R72); any other datagram is
still one `RX` event (R42, R82), so none is rejected. -/
def decodeReceive (c : Config) (bytes : List Byte) : Except DecodeError Instr :=
  match bytes with
  | checksum :: acknum :: seqnum :: payload =>
    if payload.length ≤ c.mss then .ok (.frameAck checksum acknum seqnum payload) else .ok (.rx bytes)
  | _ => .ok (.rx bytes)

/-- A datagram on the transmit port: a data frame where its length is one (R71). -/
def decodeTransmit (c : Config) (bytes : List Byte) : Except DecodeError Instr :=
  match bytes with
  | checksum :: acknum :: seqnum :: b :: payload =>
    if payload.length + 1 ≤ c.mss then .ok (.frameData checksum acknum seqnum (b :: payload)) else .error .notADataFrame
  | _ => .error .notADataFrame

/-- The decoder: total on any bytes at any port. -/
def decode (c : Config) : Port → List Byte → Except DecodeError Instr
  | .command, [] => .error .noCode
  | .command, code :: rest => decodeCommand c code rest
  | .receive, bytes => decodeReceive c bytes
  | .transmit, bytes => decodeTransmit c bytes

/-- The 8-bit code of R78 and R85; none for the two wire layouts. -/
def Instr.code : Instr → Option Byte
  | .reset => some 0x00
  | .start _ _ => some 0x01
  | .rx _ => some 0x02
  | .tick => some 0x03
  | .xmit => some 0x10
  | .next => some 0x11
  | .ckCompute _ => some 0x20
  | .ckVerify _ => some 0x21
  | .frSplit _ _ => some 0x30
  | .frNextSeqnum _ _ => some 0x31
  | .frBuild _ _ _ => some 0x32
  | .frParse _ => some 0x33
  | .tmInit => some 0x40
  | .tmClean => some 0x41
  | .tmFail => some 0x42
  | .tmExhausted => some 0x43
  | .tmArm => some 0x44
  | .tmTick => some 0x45
  | .engClassify _ => some 0x50
  | .engFail => some 0x51
  | .rxCorrupt _ => some 0x60
  | .rxGood _ => some 0x61
  | .rxStale _ => some 0x62
  | .rxOoo _ => some 0x63
  | .tickTimeout => some 0x64
  | .frameData _ _ _ _ => none
  | .frameAck _ _ _ _ => none

/-- The bytes of an operation's operands, or of the whole frame. -/
def Instr.operandBytes (c : Config) : Instr → List Byte
  | .start len isn => toBytes c.lenBytes len ++ [isn]
  | .rx frame => frame
  | .ckCompute bytes => bytes
  | .ckVerify frame => frame
  | .frSplit off len => toBytes c.lenBytes off ++ toBytes c.lenBytes len
  | .frNextSeqnum prev chunkLen => prev :: toBytes c.lenBytes chunkLen
  | .frBuild seqnum acknum chunk => seqnum :: acknum :: chunk
  | .frParse frame => frame
  | .engClassify frame => frame
  | .rxCorrupt frame => frame
  | .rxGood frame => frame
  | .rxStale frame => frame
  | .rxOoo frame => frame
  | .frameData checksum acknum seqnum payload => checksum :: acknum :: seqnum :: payload
  | .frameAck checksum acknum seqnum payload => checksum :: acknum :: seqnum :: payload
  | .reset => []
  | .tick => []
  | .xmit => []
  | .next => []
  | .tmInit => []
  | .tmClean => []
  | .tmFail => []
  | .tmExhausted => []
  | .tmArm => []
  | .tmTick => []
  | .engFail => []
  | .tickTimeout => []

/-- The port an operation is offered at: a data frame on the transmit port, an ACK frame on the receive port (R71,
R72), every other operation by its code. -/
def Instr.port : Instr → Port
  | .frameData _ _ _ _ => .transmit
  | .frameAck _ _ _ _ => .receive
  | .reset => .command
  | .start _ _ => .command
  | .rx _ => .command
  | .tick => .command
  | .xmit => .command
  | .next => .command
  | .ckCompute _ => .command
  | .ckVerify _ => .command
  | .frSplit _ _ => .command
  | .frNextSeqnum _ _ => .command
  | .frBuild _ _ _ => .command
  | .frParse _ => .command
  | .tmInit => .command
  | .tmClean => .command
  | .tmFail => .command
  | .tmExhausted => .command
  | .tmArm => .command
  | .tmTick => .command
  | .engClassify _ => .command
  | .engFail => .command
  | .rxCorrupt _ => .command
  | .rxGood _ => .command
  | .rxStale _ => .command
  | .rxOoo _ => .command
  | .tickTimeout => .command

/-- The encoder: the bytes of an operation at its port. -/
def encode (c : Config) (i : Instr) : List Byte := i.code.toList ++ i.operandBytes c

/-- The item that offers an operation. -/
def Instr.item (c : Config) (i : Instr) : Item := .word i.port (encode c i)

/-- How many bytes of operands a code has at the least: what is laid out as zeros behind a table word. -/
def operandZeros (c : Config) (code : Nat) : Nat :=
  match code with
  | 0x01 => c.lenBytes + 1
  | 0x30 => c.lenBytes + c.lenBytes
  | 0x31 => 1 + c.lenBytes
  | 0x32 => 2
  | _ => 0

/-- Where a table word stands: the 24-bit pattern of R70 is a frame on the receive port, and a code is a command.
The two wire rows have one pattern and only direction tells them apart (R83), so the 24-bit word answers
`FRAME.ACK`. Log 3. -/
def tablePort (nbits : Nat) : Port := if nbits = 24 then .receive else .command

/-- The bytes of a table word. The wire pattern has its first byte in bits 23..16 (table, "bits 23..16, byte offset
0"); a code has bit 0 as its least significant bit, with its operand bytes zero. -/
def tableBytes (c : Config) (nbits w : Nat) : List Byte :=
  if nbits = 24 then (toBytes 3 w).reverse
  else toBytes (nbits / 8) w ++ List.replicate (operandZeros c w) 0x00

/-- The operation the decoder reads from a table word, in the default build. -/
def decodeTableWord (nbits w : Nat) : Option Instr :=
  (decode Config.defaults (tablePort nbits) (tableBytes Config.defaults nbits w)).toOption

end Sys2Proof
end

