-- ==== Sys2Proof/Machine/State.lean ====
section
/-! DEFINITION. The state of the block (spec/10_state.md R20 to R37), plain data: its registers and buffers, its
build record, the host's payload buffer, the happenings still to come and the outputs so far. -/

namespace Sys2Proof.Machine

/-- The register `state`, codes 0 to 5 of R21. Codes 6 and 7 are unrepresentable (R84). -/
inductive EngineState where
  | noSession
  | idle
  | awaitingAck
  | advancing
  | completed
  | aborted
deriving DecidableEq, Repr

/-- The register `result`, codes 0 to 2 of R30. Code 3 is unrepresentable (R84). -/
inductive SessionResult where
  | none
  | ok
  | fatalTimeoutCeilingExceeded
deriving DecidableEq, Repr

/-- The classes of a received frame, spec/44_sender_engine.md R148. -/
inductive FrameClass where
  | corrupt
  | good
  | stale
  | ooo
deriving DecidableEq, Repr

/-- What `TM_TICK` answers, spec/43_retransmission_timer.md R132. -/
inductive TickResult where
  | waiting
  | expired
deriving DecidableEq, Repr

/-- The error classes of spec/60_exceptions.md R170, the two sub-classes of StaleOrDuplicateAck apart (R172). -/
inductive ErrorClass where
  | corruptedFrame
  | staleAck
  | outOfOrderAck
  | transmissionTimeout
  | fatalTimeoutCeilingExceeded
deriving DecidableEq, Repr

/-- The four fields of a well-formed frame, spec/30_encoding.md R74. -/
structure FrameFields where
  checksum : Byte
  acknum : Byte
  seqnum : Byte
  payload : List Byte
deriving DecidableEq, Repr

/-- What a sub-operation issued alone answers. Model's own, log 11. -/
inductive Returned where
  /-- `CK_COMPUTE`, `FR_NEXT_SEQNUM`. -/
  | byte (b : Byte)
  /-- `CK_VERIFY`, `TM_EXHAUSTED`. -/
  | bool (b : Bool)
  /-- `FR_SPLIT`: `(chunk_len, chunk)`. -/
  | chunk (len : Nat) (bytes : List Byte)
  /-- `FR_BUILD`. -/
  | frame (bytes : List Byte)
  /-- `FR_PARSE` of a malformed frame. -/
  | malformed
  /-- `FR_PARSE` of a well-formed frame. -/
  | fields (f : FrameFields)
  /-- `TM_TICK`. -/
  | tickResult (r : TickResult)
  /-- `ENG_CLASSIFY`. -/
  | frameClass (c : FrameClass)
deriving DecidableEq, Repr

/-- One entry of the output history (R36): `emit TX(B)` (R41), `emit SET_TIMEOUT(v)` (R43), `raise <Class>`
(spec/00_scope.md R8). -/
inductive Output where
  | tx (frame : List Byte)
  | setTimeout (v : Nat)
  | raised (e : ErrorClass)
deriving DecidableEq, Repr

/-- The bytes the host has written into its payload buffer, by address, strictly rising. -/
abbrev Memory := List Host.Cell

/-- The state. A number of `LW` or `TW` bits is a `Nat` that every write cuts to its width (log 7). -/
structure State where
  /-- The build record: constants, written by nothing (spec/00_scope.md R6, R33). Log 6. -/
  cfg : Config
  /-- `state`, R21. -/
  state : EngineState
  /-- `current_seqnum`, R22. -/
  currentSeqnum : Byte
  /-- `prev_seqnum`, R23. -/
  prevSeqnum : Byte
  /-- `prev_valid`, R23. -/
  prevValid : Bool
  /-- `dup_count`, R24: 0, 1 or 2. Code 3 is unrepresentable (R84). -/
  dupCount : Fin 3
  /-- `timeout`, `TW` bits, R25. -/
  timeout : Nat
  /-- `elapsed`, `TW` bits, R26. -/
  elapsed : Nat
  /-- `payload_len`, `LW` bits, R27. -/
  payloadLen : Nat
  /-- `seg_off`, `LW` bits, R28. -/
  segOff : Nat
  /-- `pending_frame`, `3 + MSS` bytes, offset 0 first, R29 and spec/20_memory.md R52. -/
  pendingFrame : List Byte
  /-- `pending_len`, `LW` bits, R29. -/
  pendingLen : Nat
  /-- `result`, R30. -/
  result : SessionResult
  /-- The payload buffer, the host's, spec/20_memory.md R50 and R51. -/
  payload : Memory
  /-- The happenings still to come, oldest first. Model's own, log 1. -/
  script : List Item
  /-- The outputs so far, oldest first (R36). Model's own, log 14. -/
  history : List Output
  /-- What the last sub-operation issued alone answered. Model's own, log 11. -/
  returned : Option Returned
  /-- How many free bytes have been drawn. Model's own, log 9. -/
  freeCount : Nat
deriving DecidableEq, Repr

/-- Why the machine stops with a fault: never. "No behaviour of this block is a fault", "no access of the block can
fault" (spec/93_implementation_defined.md, spec/20_memory.md R59). -/
inductive Fault where
deriving DecidableEq, Repr

/-- Why an operation has no step. Each is safe: nothing can be proved about what the block does then. -/
inductive Refusal where
  /-- An arm of `exec` without a meaning. Raised by no arm now. Safe. -/
  | notModelled (mnemonic : String)
  /-- `START` in `Idle`, `AwaitingAck` or `Advancing`: "has no step", R141. Safe. -/
  | startWhileBusy
  /-- `RX`, an arm of it or an ACK frame outside `AwaitingAck`: "the event has no step", R42. Safe. -/
  | rxNotReady
  /-- `XMIT` outside `Idle`, R143. Safe. -/
  | xmitNotIdle
  /-- `NEXT` outside `Advancing`, R160. Safe. -/
  | nextNotAdvancing
  /-- `FR_SPLIT`, or `XMIT` through it, with `off >= L`: "outside the precondition", R100. Safe. -/
  | splitOutsidePayload
  /-- An arm of `RX` or `TICK` that its event does not select, R79. Safe. -/
  | armNotSelected
  /-- A data frame that is not the one `XMIT` builds, R71. Safe. Log 4. -/
  | frameNotBuilt
  /-- A build record that breaks R6: "a model refuses such a configuration record", R203. Raised by `step`. Safe. -/
  | badConfig
  /-- An item that decodes to nothing: reserved codes (R84) and lengths. Raised by `step`. Safe. -/
  | undecodable (e : DecodeError)
  /-- Operands that do not fit the build. Raised by `step`. Safe. -/
  | illFormed
  /-- A host write at an address the buffer does not have, R50. Raised by `step`. Safe. -/
  | hostWriteOutside
  /-- A pulse that had no step when it was offered and is not latched, R12, R176, R216. Raised by `step`. Safe. -/
  | lostPulse
  /-- Nothing happens and the block has no step of its own: it waits (R167). Raised by `step`. Safe. -/
  | nothingPending
deriving DecidableEq, Repr

/-- The machine right after `RESET` in the default build: the table of R37. The bytes of `pending_frame`, which R37
leaves unspecified, are `0x00` here (DESIGN CHOICE, log 8). -/
def State.reset : State where
  cfg := Config.defaults
  state := .noSession
  currentSeqnum := 0x00
  prevSeqnum := 0x00
  prevValid := false
  dupCount := 0
  timeout := Config.defaults.tInit
  elapsed := 0
  payloadLen := 0
  segOff := 0
  pendingFrame := List.replicate (3 + Config.defaults.mss) 0x00
  pendingLen := 0
  result := .none
  payload := []
  script := []
  history := []
  returned := none
  freeCount := 0

end Sys2Proof.Machine
end

