-- ==== Sys2Proof/Machine/Operands.lean ====
section
/-! DEFINITION. The operands that rules compute from state and fields (spec/30_encoding.md R74, R75), byte string
folding (spec/00_scope.md R8) and the reads of the two buffers (spec/20_memory.md R50, R52). -/

namespace Sys2Proof.Machine

/-- `xorfold(B)`: the exclusive-or of all bytes, `0x00` for none (R8). -/
def xorFold : List Byte → Byte
  | [] => 0x00
  | b :: bs => b ^^^ xorFold bs

/-- `CK_COMPUTE(B)`, spec/41_checksum_codec.md R90: the complement of the fold. -/
def ckCompute (bytes : List Byte) : Byte := xorFold bytes ^^^ 0xFF

/-- `FR_NEXT_SEQNUM(prev, chunk_len, MSS)`, spec/42_segment_framer.md R102: the advance is by `MSS` and `chunk_len` is
not used. The sum is a natural number cut to its low 8 bits (spec/00_scope.md R13). -/
def frNextSeqnum (c : Config) (prev : Byte) (_chunkLen : Nat) : Byte := BitVec.ofNat 8 (prev.toNat + c.mss)

/-- `FR_BUILD(seqnum, acknum, chunk)`, spec/42_segment_framer.md R104. -/
def frBuild (seqnum acknum : Byte) (chunk : List Byte) : List Byte :=
  ckCompute (acknum :: seqnum :: chunk) :: acknum :: seqnum :: chunk

/-- `FR_PARSE(F)`, spec/42_segment_framer.md R107: malformed (`none`) when the length is below 3 or above `3 + MSS`,
else the fields by offset (R74). -/
def frParse (c : Config) (frame : List Byte) : Option FrameFields :=
  match frame with
  | checksum :: acknum :: seqnum :: payload =>
    if payload.length ≤ c.mss then some ⟨checksum, acknum, seqnum, payload⟩ else none
  | _ => none

/-- One byte of a memory, none where the host has written nothing. -/
def Memory.read : Memory → Nat → Option Byte
  | [], _ => none
  | (k, v) :: rest, a => if a = k then some v else Memory.read rest a

/-- `PayRead(a)`, spec/20_memory.md R50: byte `a` of the payload buffer. A byte the host has not written, and an
address at or beyond `payload_len`, read as free values (log 10). -/
def State.payRead (s : State) (a : Nat) : Byte :=
  if a < s.payloadLen then (s.payload.read a).getD (Config.unwrittenByte a) else Config.beyondPayload a

/-- `chunk_len` when framing: `min(MSS, L - off)` (R75, R100). -/
def chunkLen (c : Config) (off len : Nat) : Nat := min c.mss (len - off)

/-- The chunk of `FR_SPLIT(off, L, MSS)`, R100: the bytes at consecutive offsets, each read once. -/
def State.chunk (s : State) (off len : Nat) : List Byte :=
  (List.range (chunkLen s.cfg off len)).map (fun i => s.payRead (off + i))

/-- The frame `XMIT` builds for the current segment, spec/44_sender_engine.md R143. -/
def State.segmentFrame (s : State) : List Byte :=
  frBuild s.currentSeqnum s.cfg.dataAcknum (s.chunk s.segOff s.payloadLen)

/-- `chunk_len` of the segment in flight: `pending_len - 3` (R75). -/
def State.chunkInFlight (s : State) : Nat := s.pendingLen - 3

/-- `expected_ack`: `(current_seqnum + (pending_len - 3)) mod 256` (R75). -/
def State.expectedAck (s : State) : Byte := BitVec.ofNat 8 (s.currentSeqnum.toNat + s.chunkInFlight)

/-- `pending_frame[0 .. pending_len - 1]`: what a retransmission sends (spec/20_memory.md R52). -/
def State.storedFrame (s : State) : List Byte := s.pendingFrame.take s.pendingLen

end Sys2Proof.Machine
end

