-- ==== Sys2Proof/Machine/Flags.lean ====
section
/-! DEFINITION. The one-bit quantities of spec/10_state.md R32, the classifier, and the output ports of R33 and R40.
The block has no condition codes. -/

namespace Sys2Proof.Machine

/-- `CK_VERIFY(F)`, spec/41_checksum_codec.md R91: the whole frame folds to `0xFF`. -/
def ckVerify (frame : List Byte) : Bool := xorFold frame == 0xFF

/-- `TM_EXHAUSTED`, spec/43_retransmission_timer.md R127: strictly above the ceiling. -/
def State.tmExhausted (s : State) : Bool := decide (s.cfg.tMax < s.timeout)

/-- The stale test of R148 on an intact frame: the echo length, or the previous segment's number when there is one. -/
def State.staleTest (s : State) (frame : List Byte) (acknum : Byte) : Bool :=
  decide (frame.length = s.cfg.echoLen) || (s.prevValid && acknum == s.prevSeqnum)

/-- `ENG_CLASSIFY(F)`, spec/44_sender_engine.md R148: malformed, then checksum, then good, then stale, then
out-of-order (spec/60_exceptions.md R177). -/
def State.classify (s : State) (frame : List Byte) : FrameClass :=
  match frParse s.cfg frame with
  | none => .corrupt
  | some f =>
    if ckVerify frame then
      if f.acknum = s.expectedAck then .good else if s.staleTest frame f.acknum then .stale else .ooo
    else .corrupt

/-- The error class `ENG_CLASSIFY` raises with a class of frame, R148 and spec/60_exceptions.md R170. -/
def FrameClass.error : FrameClass → Option ErrorClass
  | .corrupt => some .corruptedFrame
  | .good => none
  | .stale => some .staleAck
  | .ooo => some .outOfOrderAck

/-- `elapsed + 1 >= timeout`: this tick ends the wait (R132). -/
def State.waitExpires (s : State) : Bool := decide (s.timeout ≤ s.elapsed + 1)

/-- `busy`, R32. -/
def State.busy (s : State) : Bool :=
  match s.state with
  | .idle => true
  | .awaitingAck => true
  | .advancing => true
  | .noSession => false
  | .completed => false
  | .aborted => false

/-- `done`, R32. -/
def State.done (s : State) : Bool := decide (s.state = .completed)

/-- `fatal`, R32. -/
def State.fatal (s : State) : Bool := decide (s.state = .aborted)

/-- `start_ready`, R40. -/
def State.startReady (s : State) : Bool := !s.busy

/-- `rx_ready`, R40. -/
def State.rxReady (s : State) : Bool := decide (s.state = .awaitingAck)

/-- `tx_valid` between events: nothing is being transmitted (R37, R9; the serialising of a frame is inside its event,
R47). Log 21. -/
def State.txValid (_ : State) : Bool := false

/-- The codes of R21. -/
def EngineState.code : EngineState → BitVec 3
  | .noSession => 0
  | .idle => 1
  | .awaitingAck => 2
  | .advancing => 3
  | .completed => 4
  | .aborted => 5

/-- The codes of R30. -/
def SessionResult.code : SessionResult → BitVec 2
  | .none => 0
  | .ok => 1
  | .fatalTimeoutCeilingExceeded => 2

/-- The codes of spec/60_exceptions.md R170. -/
def ErrorClass.code : ErrorClass → Nat
  | .corruptedFrame => 1
  | .staleAck => 2
  | .outOfOrderAck => 3
  | .transmissionTimeout => 4
  | .fatalTimeoutCeilingExceeded => 5

/-- `state_out`, R33. -/
def State.stateOut (s : State) : BitVec 3 := s.state.code

/-- `result_out`, R33. -/
def State.resultOut (s : State) : BitVec 2 := s.result.code

/-- `timeout_out`, R43: always the register `timeout`. -/
def State.timeoutOut (s : State) : Nat := s.timeout

/-- `dup_count_out`, R33. -/
def State.dupCountOut (s : State) : BitVec 2 := BitVec.ofNat 2 s.dupCount.val

/-- `seqnum_out`, R33. -/
def State.seqnumOut (s : State) : Byte := s.currentSeqnum

/-- The `TX` datagrams handed to the channel so far, in order (R36, R41). -/
def State.txs (s : State) : List (List Byte) :=
  s.history.filterMap (fun o => match o with | .tx frame => some frame | .setTimeout _ => none | .raised _ => none)

end Sys2Proof.Machine
end

