-- ==== Sys2Proof/Machine/Ops.lean ====
section
/-! DEFINITION. The named operations over registers, buffers and outputs; the timer's updates
(spec/43_retransmission_timer.md); and the entry to the abort with the failure step that leads to it
(spec/44_sender_engine.md R150, spec/60_exceptions.md R179), this block's only taking of an exception. There is no
return from it: `START` and `RESET` build anew (R181). -/

namespace Sys2Proof.Machine

/-- A memory holds its addresses strictly rising, so equal memories are equal lists. -/
abbrev Memory.wf (m : Memory) : Prop := m.Pairwise (fun x y => x.1 < y.1)

/-- The host writes one byte. An unlisted address reads as no value, so an entry never equals what it would read as
without it. -/
def Memory.write : Memory → Nat → Byte → Memory
  | [], a, b => [(a, b)]
  | (k, v) :: rest, a, b =>
    if a < k then (a, b) :: (k, v) :: rest
    else if a = k then (a, b) :: rest
    else (k, v) :: Memory.write rest a b

/-- `timeout <- v`, `TW` bits. -/
def State.setTimeout (s : State) (v : Nat) : State := { s with timeout := v % 2 ^ s.cfg.tw }

/-- `elapsed <- v`, `TW` bits. -/
def State.setElapsed (s : State) (v : Nat) : State := { s with elapsed := v % 2 ^ s.cfg.tw }

/-- `payload_len <- v`, `LW` bits. -/
def State.setPayloadLen (s : State) (v : Nat) : State := { s with payloadLen := v % 2 ^ s.cfg.lw }

/-- `seg_off <- v`, `LW` bits. -/
def State.setSegOff (s : State) (v : Nat) : State := { s with segOff := v % 2 ^ s.cfg.lw }

/-- `pending_len <- v`, `LW` bits. -/
def State.setPendingLen (s : State) (v : Nat) : State := { s with pendingLen := v % 2 ^ s.cfg.lw }

/-- One output after those so far. -/
def State.emit (s : State) (o : Output) : State := { s with history := s.history ++ [o] }

/-- `raise <Class>`: a mark on the event, no transfer of control (spec/00_scope.md R8). -/
def State.raise (s : State) (e : ErrorClass) : State := s.emit (.raised e)

/-- A sub-operation issued alone answers a value. -/
def State.answer (s : State) (r : Returned) : State := { s with returned := some r }

/-- `pending_frame[0 .. n - 1] <- F` and `pending_len <- n` (R143). The buffer's later bytes, which hold no value (R29,
I7), stay as they were. DESIGN CHOICE, log 27. -/
def State.storeFrame (s : State) (frame : List Byte) : State :=
  State.setPendingLen { s with pendingFrame := frame ++ s.pendingFrame.drop frame.length } frame.length

/-- `emit TX(pending_frame[0 .. pending_len - 1])`: verbatim (spec/42_segment_framer.md R106). -/
def State.retransmit (s : State) : State := s.emit (.tx s.storedFrame)

/-- `TM_INIT`, R121. -/
def State.tmInit (s : State) : State := { (s.setTimeout s.cfg.tInit).setElapsed 0 with dupCount := 0 }

/-- `TM_CLEAN`, R123: the test comes first, so no negative number is formed. -/
def State.tmClean (s : State) : State :=
  if s.cfg.tMin + s.cfg.tStep ≤ s.timeout then s.setTimeout (s.timeout - s.cfg.tStep) else s.setTimeout s.cfg.tMin

/-- `TM_FAIL`, R125: at the third failure the timeout doubles and the count is cleared. -/
def State.tmFail (s : State) : State :=
  if h : s.dupCount.val + 1 < Config.failLimit then { s with dupCount := ⟨s.dupCount.val + 1, h⟩ }
  else { s.setTimeout (s.timeout * 2) with dupCount := 0 }

/-- `TM_ARM`, R130. -/
def State.tmArm (s : State) : State := (s.setElapsed 0).emit (.setTimeout s.timeout)

/-- `TM_TICK`, R132. On expiry it raises TransmissionTimeout ("Errors raised: on `expired`, TransmissionTimeout");
the arm does not raise it again. DEDUCED, log 23. -/
def State.tmTick (s : State) : TickResult × State :=
  if s.state = .awaitingAck then
    if s.waitExpires then (.expired, s.raise .transmissionTimeout) else (.waiting, s.setElapsed (s.elapsed + 1))
  else (.waiting, s)

/-- Entry to the abort, spec/60_exceptions.md R179: `state` and `result` are written and nothing else; nothing is
saved and control goes nowhere. -/
def State.enterAborted (s : State) : State :=
  { s.raise .fatalTimeoutCeilingExceeded with state := .aborted, result := .fatalTimeoutCeilingExceeded }

/-- The wait begins anew: `TM_ARM` and `state <- AwaitingAck`. -/
def State.waitAgain (s : State) : State := { s.tmArm with state := .awaitingAck }

/-- `ENG_FAIL`, R150: transmit, count, double, test the ceiling (spec/60_exceptions.md R177). -/
def State.engFail (s : State) : State :=
  if s.retransmit.tmFail.tmExhausted then s.retransmit.tmFail.enterAborted else s.retransmit.tmFail.waitAgain

/-- What `ENG_CLASSIFY` raises with its answer. -/
def State.raiseClass (s : State) (c : FrameClass) : State :=
  match c.error with
  | some e => s.raise e
  | none => s

/-- The arm `RX.GOOD`, R152. -/
def State.goodArm (s : State) : State :=
  { s.tmClean.setSegOff (s.segOff + s.chunkInFlight) with
    dupCount := 0
    prevSeqnum := s.currentSeqnum
    prevValid := true
    currentSeqnum := frNextSeqnum s.cfg s.currentSeqnum s.chunkInFlight
    state := .advancing }

/-- The arm `RX.STALE`, R154. -/
def State.staleArm (s : State) : State := s.retransmit.waitAgain

/-- The arm that a class selects, R146, after the class is raised. -/
def State.rxArm (s : State) (c : FrameClass) : State :=
  match c with
  | .corrupt => (s.raiseClass .corrupt).engFail
  | .good => (s.raiseClass .good).goodArm
  | .stale => (s.raiseClass .stale).staleArm
  | .ooo => (s.raiseClass .ooo).engFail

/-- A datagram in `AwaitingAck` runs the arm of its class; elsewhere the event has no step (R42, R146). -/
def receive (frame : List Byte) (s : State) : Host.Outcome State Fault Refusal :=
  if s.rxReady then .next (s.rxArm (s.classify frame)) else .refused .rxNotReady

/-- One arm of `RX` as an operation of its own: only where its class is the frame's (R79). Log 13. -/
def receiveAs (c : FrameClass) (frame : List Byte) (s : State) : Host.Outcome State Fault Refusal :=
  if s.rxReady then
    if s.classify frame = c then .next (s.rxArm c) else .refused .armNotSelected
  else .refused .rxNotReady

/-- The registers a session starts with, all but `payload_len`, `state`, `result` and the bytes of `pending_frame`
(R140, R200). -/
def State.clearSession (s : State) (seqnum : Byte) : State :=
  State.tmInit { (s.setSegOff 0).setPendingLen 0 with currentSeqnum := seqnum, prevSeqnum := 0x00, prevValid := false }

/-- `count` free bytes, drawn in order. Log 9. -/
def freeBytes (start count : Nat) : List Byte := (List.range count).map (fun i => Config.freeByte (start + i))

/-- `pending_frame` bytes "unspecified" after `RESET` (R37): free values. Log 9. -/
def State.forgetFrame (s : State) : State :=
  { s with
    pendingFrame := freeBytes s.freeCount (3 + s.cfg.mss)
    freeCount := s.freeCount + (3 + s.cfg.mss) }

/-- `XMIT` where `FR_SPLIT`'s precondition holds, R143. -/
def State.sendSegment (s : State) : State :=
  ((s.storeFrame s.segmentFrame).emit (.tx s.segmentFrame)).waitAgain

end Sys2Proof.Machine
end

