-- ==== Sys2Proof/Machine/Codec.lean ====
section
/-! DEFINITION. The Checksum Codec, spec/41_checksum_codec.md. Pure functions: the state is unchanged but for the
answer (log 11). -/

namespace Sys2Proof.Machine

/-- `CK_COMPUTE(B)`, R90. -/
def execCkCompute (bytes : List Byte) (s : State) : Host.Outcome State Fault Refusal :=
  .next (s.answer (.byte (ckCompute bytes)))

/-- `CK_VERIFY(F)`, R91. -/
def execCkVerify (frame : List Byte) (s : State) : Host.Outcome State Fault Refusal :=
  .next (s.answer (.bool (ckVerify frame)))

end Sys2Proof.Machine
end

