-- ==== Sys2Proof/Machine/Engine.lean ====
section
/-! DEFINITION. The Stop-and-Wait Sender Engine, spec/44_sender_engine.md, its arms, and `RESET`
(spec/70_reset_and_hazards.md). -/

namespace Sys2Proof.Machine

/-- `RESET`, R200: accepted in every state, transmits nothing. The host's payload buffer and the record of outputs
are not the block's and stay (R202, log 14). -/
def execReset (s : State) : Host.Outcome State Fault Refusal :=
  .next { (s.setPayloadLen 0).clearSession 0x00 |>.forgetFrame with state := .noSession, result := .none }

/-- `START(L, isn)`, R140; while `busy` it has no step (R141). An `L` above the port is cut to `LW` bits. -/
def execStart (len : Nat) (isn : Byte) (s : State) : Host.Outcome State Fault Refusal :=
  if s.startReady then
    if (s.setPayloadLen len).payloadLen = 0 then
      .next { (s.setPayloadLen len).clearSession isn with state := .completed, result := .ok }
    else .next { (s.setPayloadLen len).clearSession isn with state := .idle, result := .none }
  else .refused .startWhileBusy

/-- `RX(F)`, R146. -/
def execRx (frame : List Byte) (s : State) : Host.Outcome State Fault Refusal := receive frame s

/-- `TICK`, R132 and R158: accepted in every state, inert outside `AwaitingAck`. -/
def execTick (s : State) : Host.Outcome State Fault Refusal :=
  match s.tmTick with
  | (.waiting, t) => .next t
  | (.expired, t) => .next t.engFail

/-- `XMIT`, R143. In a state where `FR_SPLIT`'s precondition fails (no run reaches one) it has no step. -/
def execXmit (s : State) : Host.Outcome State Fault Refusal :=
  if s.state = .idle then
    if s.segOff < s.payloadLen then .next s.sendSegment else .refused .splitOutsidePayload
  else .refused .xmitNotIdle

/-- `NEXT`, R160. -/
def execNext (s : State) : Host.Outcome State Fault Refusal :=
  if s.state = .advancing then
    if s.segOff < s.payloadLen then .next { s with state := .idle }
    else .next { s with state := .completed, result := .ok }
  else .refused .nextNotAdvancing

/-- `ENG_CLASSIFY(F)`, R148. -/
def execEngClassify (frame : List Byte) (s : State) : Host.Outcome State Fault Refusal :=
  .next ((s.raiseClass (s.classify frame)).answer (.frameClass (s.classify frame)))

/-- `ENG_FAIL`, R150. -/
def execEngFail (s : State) : Host.Outcome State Fault Refusal := .next s.engFail

/-- `RX.CORRUPT`, R151. -/
def execRxCorrupt (frame : List Byte) (s : State) : Host.Outcome State Fault Refusal := receiveAs .corrupt frame s

/-- `RX.GOOD`, R152. -/
def execRxGood (frame : List Byte) (s : State) : Host.Outcome State Fault Refusal := receiveAs .good frame s

/-- `RX.STALE`, R154. -/
def execRxStale (frame : List Byte) (s : State) : Host.Outcome State Fault Refusal := receiveAs .stale frame s

/-- `RX.OOO`, R156. -/
def execRxOoo (frame : List Byte) (s : State) : Host.Outcome State Fault Refusal := receiveAs .ooo frame s

/-- `TICK.TIMEOUT`, R158: the arm of a `TICK` that ends the wait. -/
def execTickTimeout (s : State) : Host.Outcome State Fault Refusal :=
  match s.tmTick with
  | (.waiting, _) => .refused .armNotSelected
  | (.expired, t) => .next t.engFail

end Sys2Proof.Machine
end

