-- ==== Sys2Proof/Machine/Framer.lean ====
section
/-! DEFINITION. The Segment Framer, spec/42_segment_framer.md. No state of its own. -/

namespace Sys2Proof.Machine

/-- `FR_SPLIT(off, L, MSS)`, R100; precondition `off < L`. -/
def execFrSplit (off len : Nat) (s : State) : Host.Outcome State Fault Refusal :=
  if off < len then .next (s.answer (.chunk (chunkLen s.cfg off len) (s.chunk off len))) else .refused .splitOutsidePayload

/-- `FR_NEXT_SEQNUM(prev, chunk_len, MSS)`, R102. -/
def execFrNextSeqnum (prev : Byte) (len : Nat) (s : State) : Host.Outcome State Fault Refusal :=
  .next (s.answer (.byte (frNextSeqnum s.cfg prev len)))

/-- `FR_BUILD(seqnum, acknum, chunk)`, R104. -/
def execFrBuild (seqnum acknum : Byte) (chunk : List Byte) (s : State) : Host.Outcome State Fault Refusal :=
  .next (s.answer (.frame (frBuild seqnum acknum chunk)))

/-- `FR_PARSE(F)`, R107. -/
def execFrParse (frame : List Byte) (s : State) : Host.Outcome State Fault Refusal :=
  match frParse s.cfg frame with
  | none => .next (s.answer .malformed)
  | some f => .next (s.answer (.fields f))

end Sys2Proof.Machine
end

