-- ==== Sys2Proof/Machine/Timer.lean ====
section
/-! DEFINITION. The Retransmission Timer, spec/43_retransmission_timer.md. Issued alone, each runs its pseudocode in
any state (log 12). -/

namespace Sys2Proof.Machine

/-- `TM_INIT`, R121. -/
def execTmInit (s : State) : Host.Outcome State Fault Refusal := .next s.tmInit

/-- `TM_CLEAN`, R123. -/
def execTmClean (s : State) : Host.Outcome State Fault Refusal := .next s.tmClean

/-- `TM_FAIL`, R125. -/
def execTmFail (s : State) : Host.Outcome State Fault Refusal := .next s.tmFail

/-- `TM_EXHAUSTED`, R127. -/
def execTmExhausted (s : State) : Host.Outcome State Fault Refusal := .next (s.answer (.bool s.tmExhausted))

/-- `TM_ARM`, R130. -/
def execTmArm (s : State) : Host.Outcome State Fault Refusal := .next s.tmArm

/-- `TM_TICK`, R132. -/
def execTmTick (s : State) : Host.Outcome State Fault Refusal := .next (s.tmTick.2.answer (.tickResult s.tmTick.1))

end Sys2Proof.Machine
end

