-- ==== Sys2Proof/Machine/Wire.lean ====
section
/-! DEFINITION. The two wire layouts as operations (spec/30_encoding.md R70 to R72): what the block sends is a data
frame, what it receives is taken as an ACK (R83). -/

namespace Sys2Proof.Machine

/-- `FRAME.DATA`, R71: the block hands this data frame to the channel. Only `XMIT` sends a new one, so the operation
is `XMIT` where the frame is the one it builds. DEDUCED, log 4. -/
def execFrameData (checksum acknum seqnum : Byte) (payload : List Byte) (s : State) : Host.Outcome State Fault Refusal :=
  if s.state = .idle then
    if s.segOff < s.payloadLen then
      if s.segmentFrame = checksum :: acknum :: seqnum :: payload then .next s.sendSegment else .refused .frameNotBuilt
    else .refused .splitOutsidePayload
  else .refused .xmitNotIdle

/-- `FRAME.ACK`, R72: the channel delivers this frame, an `RX` event. DEDUCED, log 5. -/
def execFrameAck (checksum acknum seqnum : Byte) (payload : List Byte) (s : State) : Host.Outcome State Fault Refusal :=
  receive (checksum :: acknum :: seqnum :: payload) s

end Sys2Proof.Machine
end

