-- ==== Sys2Proof/Machine/Dispatch.lean ====
section
/-! DEFINITION. One arm per operation. -/

namespace Sys2Proof.Machine

/-- What an operation does. -/
def exec (i : Instr) (s : State) : Host.Outcome State Fault Refusal :=
  match i with
  | .reset => Sys2Proof.Machine.execReset s
  | .start len isn => Sys2Proof.Machine.execStart len isn s
  | .rx frame => Sys2Proof.Machine.execRx frame s
  | .tick => Sys2Proof.Machine.execTick s
  | .xmit => Sys2Proof.Machine.execXmit s
  | .next => Sys2Proof.Machine.execNext s
  | .ckCompute bytes => Sys2Proof.Machine.execCkCompute bytes s
  | .ckVerify frame => Sys2Proof.Machine.execCkVerify frame s
  | .frSplit off len => Sys2Proof.Machine.execFrSplit off len s
  | .frNextSeqnum prev chunkLen => Sys2Proof.Machine.execFrNextSeqnum prev chunkLen s
  | .frBuild seqnum acknum chunk => Sys2Proof.Machine.execFrBuild seqnum acknum chunk s
  | .frParse frame => Sys2Proof.Machine.execFrParse frame s
  | .tmInit => Sys2Proof.Machine.execTmInit s
  | .tmClean => Sys2Proof.Machine.execTmClean s
  | .tmFail => Sys2Proof.Machine.execTmFail s
  | .tmExhausted => Sys2Proof.Machine.execTmExhausted s
  | .tmArm => Sys2Proof.Machine.execTmArm s
  | .tmTick => Sys2Proof.Machine.execTmTick s
  | .engClassify frame => Sys2Proof.Machine.execEngClassify frame s
  | .engFail => Sys2Proof.Machine.execEngFail s
  | .rxCorrupt frame => Sys2Proof.Machine.execRxCorrupt frame s
  | .rxGood frame => Sys2Proof.Machine.execRxGood frame s
  | .rxStale frame => Sys2Proof.Machine.execRxStale frame s
  | .rxOoo frame => Sys2Proof.Machine.execRxOoo frame s
  | .tickTimeout => Sys2Proof.Machine.execTickTimeout s
  | .frameData checksum acknum seqnum payload => Sys2Proof.Machine.execFrameData checksum acknum seqnum payload s
  | .frameAck checksum acknum seqnum payload => Sys2Proof.Machine.execFrameAck checksum acknum seqnum payload s

end Sys2Proof.Machine
end

