-- ==== Sys2Proof/Machine/Schedule.lean ====
section
/-! DEFINITION. What happens next (spec/60_exceptions.md R176, R178): the oldest item of the schedule, or a step the
block takes by itself; and the pseudo-events of spec/30_encoding.md R81. -/

namespace Sys2Proof.Machine

/-- The step the block takes by itself: `XMIT` in `Idle`, `NEXT` in `Advancing` (R143, R160). -/
def State.ownStep (s : State) : Option Instr :=
  match s.state with
  | .idle => some .xmit
  | .advancing => some .next
  | .noSession => none
  | .awaitingAck => none
  | .completed => none
  | .aborted => none

/-- What the oldest item of the schedule does, the item taken off. A write of the host falls between two events and never
inside an `XMIT`, whose reads R57 does not make atomic with respect to the host. DESIGN CHOICE, log 28. -/
def offered (s : State) : Host.Outcome State Fault Refusal :=
  match s.script with
  | [] => .refused .nothingPending
  | .missed :: _ => .refused .lostPulse
  | .hostWrite a b :: rest =>
    if a < 2 ^ s.cfg.lw then .next { s with payload := s.payload.write a b, script := rest } else .refused .hostWriteOutside
  | .word port bytes :: rest =>
    match decode s.cfg port bytes with
    | .error e => .refused (.undecodable e)
    | .ok i => if i.wf s.cfg then exec i { s with script := rest } else .refused .illFormed

/-- What becomes of an oldest item that is not accepted, by why it is not, when the block takes its own step. A pulse is
not latched (spec/60_exceptions.md R176, spec/70_reset_and_hazards.md R216): a `start` while `busy`, or a tick that ends
no wait, has missed its moment for good, and stays in its place as what no later step accepts (spec/00_scope.md R12).
Anything else stays as it is, as a datagram may with the channel (R42, R176). Log 15. -/
def State.afterUnaccepted (s : State) (r : Refusal) : State :=
  if r = .startWhileBusy ∨ r = .armNotSelected then { s with script := .missed :: s.script.tail } else s

/-- One step: the oldest item, or, where that has no step, the block's own step, before any later item is looked at
(R178). A bad build record has no step (R203). Log 15. -/
def takeStep (s : State) : Host.Outcome State Fault Refusal :=
  if s.cfg.Valid then
    match offered s, s.ownStep with
    | .refused r, some i => exec i (s.afterUnaccepted r)
    | o, _ => o
  else .refused .badConfig

/-- A pure ACK, `ACK a=AA s=SS` of R81. -/
def ackFrame (acknum seqnum : Byte) : List Byte := [ckCompute [acknum, seqnum], acknum, seqnum]

/-- `BADACK a=AA s=SS flip=MM` of R81. -/
def badAckFrame (acknum seqnum mask : Byte) : List Byte := [ckCompute [acknum, seqnum] ^^^ mask, acknum, seqnum]

/-- `ECHO` of R81. -/
def echoFrame : List Byte := ckCompute [0x00, 0x00, 0x00, 0x00, 0x00] :: List.replicate 5 0x00

/-- `TIMEOUT` of R81: the ticks that run the wait to expiry. -/
def timeoutTicks (s : State) : List Instr := List.replicate (s.timeout - s.elapsed) .tick

/-- `RUN` of R81: the enabled steps until the block waits or has ended. -/
def runSteps (s : State) : List Instr :=
  match s.state with
  | .idle => [.xmit]
  | .advancing => if s.segOff < s.payloadLen then [.next, .xmit] else [.next]
  | .noSession => []
  | .awaitingAck => []
  | .completed => []
  | .aborted => []

end Sys2Proof.Machine
end

