-- ==== Sys2Proof/Machine/Step.lean ====
section
/-! DEFINITION. The step of the machine, and where a table word stands so that the next step runs it. -/

namespace Sys2Proof.Machine

/-- One step. -/
def step (s : State) : Host.Outcome State Fault Refusal := Sys2Proof.Machine.takeStep s

/-- A table word at the head of the schedule, where `step` takes its next operation. The block fetches no
instructions (spec/20_memory.md R54): its operations are offered to it. Log 19. -/
def State.withFetchWord (s : State) (nbits w : Nat) : State :=
  { s with script := .word (tablePort nbits) (tableBytes s.cfg nbits w) :: s.script }

end Sys2Proof.Machine
end

