-- ==== Sys2Proof/Safety.lean ====
section
/-! DEFINITION. What holds of the block after every accepted event (spec/10_state.md R35) and of the model's own data:
the terms the claims use. -/

namespace Sys2Proof.Machine

/-- Every register fits its width (the widths of R20). -/
abbrev State.Sized (s : State) : Prop :=
  s.timeout < 2 ^ s.cfg.tw ∧ s.elapsed < 2 ^ s.cfg.tw ∧ s.payloadLen < 2 ^ s.cfg.lw ∧ s.segOff < 2 ^ s.cfg.lw ∧
    s.pendingLen < 2 ^ s.cfg.lw ∧ s.pendingFrame.length = 3 + s.cfg.mss

/-- R35 item 3: the range of `timeout`. -/
abbrev State.TimeoutInRange (s : State) : Prop :=
  (s.state ≠ .aborted → s.cfg.tMin ≤ s.timeout ∧ s.timeout ≤ s.cfg.tMax) ∧
    (s.state = .aborted → s.cfg.tMax < s.timeout ∧ s.timeout ≤ 2 * s.cfg.tMax)

/-- R35 item 4: where `seg_off` stands. -/
abbrev State.PositionInRange (s : State) : Prop :=
  s.segOff ≤ s.payloadLen ∧ (s.state = .idle ∨ s.state = .awaitingAck → s.segOff < s.payloadLen) ∧
    (s.state = .completed → s.segOff = s.payloadLen)

/-- R35 item 5: the segment in flight. -/
abbrev State.FlightInRange (s : State) : Prop :=
  s.state = .awaitingAck →
    4 ≤ s.pendingLen ∧ s.pendingLen ≤ 3 + s.cfg.mss ∧
      s.pendingLen - 3 = min s.cfg.mss (s.payloadLen - s.segOff) ∧ ckVerify s.storedFrame = true ∧
      s.pendingFrame[1]? = some s.cfg.dataAcknum ∧ s.pendingFrame[2]? = some s.currentSeqnum ∧ s.elapsed < s.timeout

/-- R35 item 6: `result` says how the session ended. -/
abbrev State.ResultAgrees (s : State) : Prop :=
  (s.result = .ok ↔ s.state = .completed) ∧ (s.result = .fatalTimeoutCeilingExceeded ↔ s.state = .aborted)

/-- R35 item 7: `seg_off` is a multiple of `MSS`, or the payload is done. -/
abbrev State.SegmentAligned (s : State) : Prop :=
  s.cfg.mss ∣ s.segOff ∨ (s.state = .advancing ∨ s.state = .completed) ∧ s.segOff = s.payloadLen

/-- The invariants of R35 that the types do not already give (items 1 and 2 they do), for a build that R6 admits, with
every register in its width and the payload buffer in its canonical form. -/
abbrev State.Inv (s : State) : Prop :=
  s.cfg.Valid ∧ s.Sized ∧ s.TimeoutInRange ∧ s.PositionInRange ∧ s.FlightInRange ∧ s.ResultAgrees ∧
    s.SegmentAligned ∧ s.payload.wf

/-- An item that may stand in a trace: "kind `sub` ... never occurring alone in a trace" (spec/30_encoding.md R78). -/
def inTrace (c : Config) : Item → Bool
  | .hostWrite _ _ => true
  | .missed => true
  | .word port bytes =>
    match decode c port bytes with
    | .ok i => decide (i.kind ≠ .sub)
    | .error _ => true

/-- The schedule is a trace. -/
abbrev State.ScriptIsTrace (s : State) : Prop := s.script.all (inTrace s.cfg) = true

/-- A byte of `pending_frame`. -/
def State.pendingByte (s : State) (i : Nat) : Option Byte := s.pendingFrame[i]?

/-- The exclusive-or of a byte string as R90 and R91 run it: an accumulator from `0x00`, first byte first. -/
def foldBytes (bytes : List Byte) : Byte := bytes.foldl (fun acc b => acc ^^^ b) 0x00

/-- A received frame that is neither malformed nor fails verification (R148). -/
abbrev Intact (c : Config) (frame : List Byte) : Prop :=
  3 ≤ frame.length ∧ frame.length ≤ 3 + c.mss ∧ foldBytes frame = 0xFF

/-- A list of operations in order, stopping where one has no step. -/
def execAll : List Instr → State → Host.Outcome State Fault Refusal
  | [], s => .next s
  | i :: is, s =>
    match exec i s with
    | .next t => execAll is t
    | .fault r => .fault r
    | .refused r => .refused r

/-- What an operation hands to the channel when it has a step (spec/44_sender_engine.md R144). -/
def transmitted (i : Instr) (s : State) : List (List Byte) :=
  match i with
  | .xmit => [s.segmentFrame]
  | .frameData _ _ _ _ => [s.segmentFrame]
  | .rx frame => if s.classify frame = .good then [] else [s.storedFrame]
  | .frameAck c a q p => if s.classify (c :: a :: q :: p) = .good then [] else [s.storedFrame]
  | .rxCorrupt _ => [s.storedFrame]
  | .rxStale _ => [s.storedFrame]
  | .rxOoo _ => [s.storedFrame]
  | .tickTimeout => [s.storedFrame]
  | .tick => if s.state = .awaitingAck ∧ s.timeout ≤ s.elapsed + 1 then [s.storedFrame] else []
  | .engFail => [s.storedFrame]
  | .rxGood _ => []
  | .reset => []
  | .start _ _ => []
  | .next => []
  | .ckCompute _ => []
  | .ckVerify _ => []
  | .frSplit _ _ => []
  | .frNextSeqnum _ _ => []
  | .frBuild _ _ _ => []
  | .frParse _ => []
  | .tmInit => []
  | .tmClean => []
  | .tmFail => []
  | .tmExhausted => []
  | .tmArm => []
  | .tmTick => []
  | .engClassify _ => []

/-- Where a failure leads (spec/44_sender_engine.md R142): `Aborted` when the timer is exhausted after it. -/
abbrev failureEdge (s t : State) : Prop :=
  s.state = .awaitingAck ∧ t.state = if t.cfg.tMax < t.timeout then .aborted else .awaitingAck

/-- Where a received frame leads (R142), by its class. -/
def receiveEdge (c : FrameClass) (s t : State) : Prop :=
  match c with
  | .corrupt => failureEdge s t
  | .good => s.state = .awaitingAck ∧ t.state = .advancing
  | .stale => s.state = .awaitingAck ∧ t.state = .awaitingAck
  | .ooo => failureEdge s t

/-- The rows of the transition graph, R142; a sub-operation is none of them. -/
def graphEdge (i : Instr) (s t : State) : Prop :=
  match i with
  | .reset => t.state = .noSession
  | .start len _ =>
    (s.state = .noSession ∨ s.state = .completed ∨ s.state = .aborted) ∧ t.state = if len = 0 then .completed else .idle
  | .xmit => s.state = .idle ∧ t.state = .awaitingAck
  | .frameData _ _ _ _ => s.state = .idle ∧ t.state = .awaitingAck
  | .rx frame => receiveEdge (s.classify frame) s t
  | .frameAck c a q p => receiveEdge (s.classify (c :: a :: q :: p)) s t
  | .rxCorrupt frame => s.classify frame = .corrupt ∧ failureEdge s t
  | .rxGood frame => s.classify frame = .good ∧ s.state = .awaitingAck ∧ t.state = .advancing
  | .rxStale frame => s.classify frame = .stale ∧ s.state = .awaitingAck ∧ t.state = .awaitingAck
  | .rxOoo frame => s.classify frame = .ooo ∧ failureEdge s t
  | .tick => if s.state = .awaitingAck ∧ s.timeout ≤ s.elapsed + 1 then failureEdge s t else t.state = s.state
  | .tickTimeout => s.timeout ≤ s.elapsed + 1 ∧ failureEdge s t
  | .next => s.state = .advancing ∧ t.state = if s.segOff < s.payloadLen then .idle else .completed
  | .ckCompute _ => False
  | .ckVerify _ => False
  | .frSplit _ _ => False
  | .frNextSeqnum _ _ => False
  | .frBuild _ _ _ => False
  | .frParse _ => False
  | .tmInit => False
  | .tmClean => False
  | .tmFail => False
  | .tmExhausted => False
  | .tmArm => False
  | .tmTick => False
  | .engClassify _ => False
  | .engFail => False

/-- How the number in flight stands to the one before it (spec/10_state.md R23, spec/42_segment_framer.md R102):
`prev_valid` says whether a segment of this session is confirmed, and the number then moved on by `MSS`. -/
abbrev State.NumbersFollow (s : State) : Prop :=
  (s.prevValid = true ↔ 0 < s.segOff) ∧
    (s.prevValid = true → s.currentSeqnum = BitVec.ofNat 8 (s.prevSeqnum.toNat + s.cfg.mss))

end Sys2Proof.Machine
end

