-- ==== Sys2Proof/Certificates/Slice0/Obligations.lean ====
section
/-! DEFINITION. The statements for the provers, file by file of spec/. A statement's docstring names the rule it
formalises; "the spec's own decision" marks a rule the spec marks so, "the model's choice" a log entry. -/

open Sys2Proof Sys2Proof.Machine

/-! ### Decoding and the step -/

/-- Every well-formed operation is what the decoder reads from its encoding, in every build. The codes and layouts are
R70, R78 and R85; the bytes of operands are the model's choice (log 2). -/
def Obligations.DecodeOfEncodeIsTheOperation : Prop :=
  ∀ (c : Config) (i : Instr), i.wf c = true → decode c i.port (encode c i) = .ok i

/-- Words written out from R78, R70 and R85, with the operand bytes of log 2. -/
def Obligations.WrittenOutWordsDecode : Prop :=
  decodeTableWord 8 0x00 = some .reset ∧ decodeTableWord 8 0x10 = some .xmit ∧
  decode Config.defaults .command [0x01, 0x0A, 0x00, 0x2A] = .ok (.start 10 0x2A) ∧
  decode Config.defaults .command [0x02, 0xE1, 0x34, 0x2A] = .ok (.rx [0xE1, 0x34, 0x2A]) ∧
  decode Config.defaults .command [0x21, 0xFF] = .ok (.ckVerify [0xFF]) ∧
  decode Config.defaults .command [0x30, 0x04, 0x00, 0x06, 0x00] = .ok (.frSplit 4 6) ∧
  decode Config.defaults .command [0x42] = .ok .tmFail ∧
  decode Config.defaults .command [0x51] = .ok .engFail ∧
  decode Config.defaults .command [0x61, 0x03, 0x02, 0xFE] = .ok (.rxGood [0x03, 0x02, 0xFE]) ∧
  decode Config.defaults .receive [0xE1, 0x34, 0x2A] = .ok (.frameAck 0xE1 0x34 0x2A []) ∧
  decode Config.defaults .transmit [0x05, 0x00, 0xFE, 0x41, 0x42] = .ok (.frameData 0x05 0x00 0xFE [0x41, 0x42])

/-- A code outside R78 and R85 is rejected by name, whatever follows it (R84, the spec's own decision). -/
def Obligations.ReservedCodesAreRejected : Prop :=
  ∀ (c : Config) (code : Byte) (rest : List Byte),
    (∀ i : Instr, i.code ≠ some code) → decode c .command (code :: rest) = .error (.reservedCode code)

/-- Whatever the channel delivers at the receive port decodes, and is the `RX` event of those bytes (R42, R82, R83). -/
def Obligations.EveryDatagramIsOneRx : Prop :=
  ∀ (c : Config) (bytes : List Byte), ∃ i, decode c .receive bytes = .ok i ∧ i.wf c = true ∧ ∀ s, exec i s = exec (.rx bytes) s

/-- When the oldest item decodes to a well-formed operation, the step is that operation, the item taken off: always
where the operation has a step, and in every case where the block has no step of its own. The schedule is the model's
choice (log 1, log 15). -/
def Obligations.StepRunsTheOldestItem : Prop :=
  ∀ (s : State) (port : Port) (bytes : List Byte) (rest : List Item) (i : Instr),
    s.cfg.Valid → s.script = .word port bytes :: rest → decode s.cfg port bytes = .ok i → i.wf s.cfg = true →
    (∀ t, exec i { s with script := rest } = .next t → step s = .next t) ∧
    (s.state ≠ .idle → s.state ≠ .advancing → step s = exec i { s with script := rest })

/-- In `Idle` and `Advancing` the block takes `XMIT` or `NEXT` by itself when nothing is offered and before any item
that has no step there (R143, R160, R178, log 15); elsewhere, with nothing offered, it waits (R167, log 16). -/
def Obligations.BlockTakesItsOwnStep : Prop :=
  (∀ s : State, s.cfg.Valid → s.state = .idle →
    (s.script = [] → step s = exec .xmit s) ∧
    ∀ r, offered s = .refused r → step s = exec .xmit (s.afterUnaccepted r)) ∧
  (∀ s : State, s.cfg.Valid → s.state = .advancing →
    (s.script = [] → step s = exec .next s) ∧
    ∀ r, offered s = .refused r → step s = exec .next (s.afterUnaccepted r)) ∧
  (∀ s : State, s.cfg.Valid → s.state ≠ .idle → s.state ≠ .advancing → s.script = [] →
    step s = .refused .nothingPending)

/-- R12, R141, R176, R216: a `start` pulse while `busy` has no step, and none is accepted later: in `Idle` and
`Advancing` the block takes its own step (R143, R160) and the pulse has missed its moment, and where the block has no
step of its own the step is refused, the pulse never absorbed (I13). A tick's timeout arm that ends no wait likewise; a
`TICK` there is accepted and inert; a datagram that is not taken stays with the channel (R42). How an item stands in the
schedule is the model's choice (log 15). -/
def Obligations.PulsesAreNotLatched : Prop :=
  (∀ (s : State) (port : Port) (bytes : List Byte) (rest : List Item) (i own : Instr),
    s.cfg.Valid → s.script = .word port bytes :: rest → decode s.cfg port bytes = .ok i → i.wf s.cfg = true →
    (s.state = .idle ∧ own = .xmit ∨ s.state = .advancing ∧ own = .next →
      (∀ len isn, i = .start len isn → step s = exec own { s with script := .missed :: rest }) ∧
      (i = .tickTimeout → step s = exec own { s with script := .missed :: rest }) ∧
      (i = .tick → step s = .next { s with script := rest }) ∧
      (∀ frame, i = .rx frame → step s = exec own s) ∧ (∀ c a q p, i = .frameAck c a q p → step s = exec own s)) ∧
    (s.state = .awaitingAck → ∀ len isn, i = .start len isn → step s = .refused .startWhileBusy)) ∧
  (∀ (s : State) (rest : List Item), s.cfg.Valid → s.script = .missed :: rest →
    (s.state = .idle → step s = exec .xmit s) ∧ (s.state = .advancing → step s = exec .next s) ∧
    (s.state ≠ .idle → s.state ≠ .advancing → step s = .refused .lostPulse))

/-- A build record that breaks a constraint of R6 has no step (R203, the spec's own decision). -/
def Obligations.BadBuildHasNoStep : Prop :=
  ∀ s : State, (s.cfg.mss = 0 ∨ s.cfg.tMin = 0 ∨ s.cfg.tStep = 0 ∨ s.cfg.tInit < s.cfg.tMin ∨
      s.cfg.tMax < s.cfg.tInit ∨ 2 ^ s.cfg.tw ≤ 2 * s.cfg.tMax ∨ 2 ^ s.cfg.lw ≤ 3 + s.cfg.mss ∨
      s.cfg.lw < 2 ∨ s.cfg.echoLen < 3) →
    step s = .refused .badConfig

/-- A write of the host into its payload buffer changes that byte and no other, nothing of the block, and keeps the
buffer's canonical form. The item is the model's choice (log 20). -/
def Obligations.HostWritePutsOneByte : Prop :=
  ∀ (s : State) (a : Nat) (b : Byte) (rest : List Item),
    s.cfg.Valid → s.script = .hostWrite a b :: rest → a < 2 ^ s.cfg.lw →
    ∃ m : Memory, step s = .next { s with payload := m, script := rest } ∧ m.read a = some b ∧
      (∀ x, x ≠ a → m.read x = s.payload.read x) ∧ (s.payload.wf → m.wf)

/-! ### Reset and the invariants -/

/-- The state right after reset: the table of R37 (the spec's own decision), in the default build, and it meets the
invariants of R35. The bytes of `pending_frame` are the model's choice (log 8), so are the model's own fields. -/
def Obligations.ResetStateMeetsInvariants : Prop :=
  State.reset.cfg = Config.defaults ∧ State.reset.state = .noSession ∧ State.reset.currentSeqnum = 0x00 ∧
  State.reset.prevSeqnum = 0x00 ∧ State.reset.prevValid = false ∧ State.reset.dupCount = 0 ∧
  State.reset.timeout = 100 ∧ State.reset.elapsed = 0 ∧ State.reset.payloadLen = 0 ∧ State.reset.segOff = 0 ∧
  State.reset.pendingLen = 0 ∧ State.reset.result = .none ∧ State.reset.Inv ∧ State.reset.NumbersFollow ∧
  State.reset.ScriptIsTrace

/-- R35: every step from a state that meets the invariants, driven by a trace, meets them again. The spec marks R35 as
derived; "a trace" is R78's "kind `sub` ... never occurring alone in a trace". -/
def Obligations.StepKeepsInvariants : Prop :=
  ∀ s t : State, s.Inv → s.ScriptIsTrace → step s = .next t → t.Inv ∧ t.ScriptIsTrace ∧ t.cfg = s.cfg

/-- R23: `prev_valid` says whether a segment of the session is confirmed, and `prev_seqnum` is the number one advance
by `MSS` before the current one. Every step keeps it. -/
def Obligations.StepKeepsSequenceNumbers : Prop :=
  ∀ s t : State, s.Inv → s.ScriptIsTrace → s.NumbersFollow → step s = .next t → t.NumbersFollow

/-- `RESET` is accepted in every state and leaves the table of R37, nothing transmitted; what it leaves in the bytes of
`pending_frame` is not said; doing it again changes no register (R200, R201, the spec's own decision). -/
def Obligations.ResetPutsTheTable : Prop :=
  ∀ s : State, s.cfg.Valid → ∃ (bytes : List Byte) (n : Nat), bytes.length = 3 + s.cfg.mss ∧
    exec .reset s = .next { s with
      state := .noSession, result := .none, currentSeqnum := 0x00, prevSeqnum := 0x00, prevValid := false,
      dupCount := 0, timeout := s.cfg.tInit, elapsed := 0, payloadLen := 0, segOff := 0, pendingLen := 0,
      pendingFrame := bytes, freeCount := n } ∧
    ∀ t, exec .reset s = .next t →
      ∃ (again : List Byte) (m : Nat), exec .reset t = .next { t with pendingFrame := again, freeCount := m }

/-- `done` and `fatal` are what `result` says, `start_ready` is what R40 says, and the block is in exactly one of: no
session, busy, done, fatal (R30, R32), in every state that meets R35. -/
def Obligations.StatusPortsAgree : Prop :=
  ∀ s : State, s.Inv →
    (s.done = true ↔ s.resultOut = 1) ∧ (s.fatal = true ↔ s.resultOut = 2) ∧
    (s.resultOut ≠ 0 ↔ s.done = true ∨ s.fatal = true) ∧
    (s.startReady = true ↔ s.state = .noSession ∨ s.done = true ∨ s.fatal = true) ∧
    (s.stateOut = 0 ∧ s.busy = false ∧ s.done = false ∧ s.fatal = false ∨
      s.busy = true ∧ s.done = false ∧ s.fatal = false ∨ s.busy = false ∧ s.done = true ∧ s.fatal = false ∨
      s.busy = false ∧ s.done = false ∧ s.fatal = true)

/-! ### Codec -/

/-- R90 and R91: the two operations answer the complement of the fold, and whether the fold is `0xFF`, and write
nothing of the block. That `CK_COMPUTE` complements is the spec's own resolution (R90, C1). -/
def Obligations.CodecAnswersTheFold : Prop :=
  ∀ (s : State) (bytes : List Byte),
    exec (.ckCompute bytes) s = .next { s with returned := some (.byte (foldBytes bytes ^^^ 0xFF)) } ∧
    exec (.ckVerify bytes) s = .next { s with returned := some (.bool (decide (foldBytes bytes = 0xFF))) }

/-- R92 (derived in the spec): a computed checksum verifies, first or last, and no other byte does. -/
def Obligations.ChecksumRoundTrip : Prop :=
  ∀ (bytes : List Byte) (c : Byte),
    (ckVerify (c :: bytes) = true ↔ c = ckCompute bytes) ∧ (ckVerify (bytes ++ [c]) = true ↔ c = ckCompute bytes)

/-- R93 (derived in the spec): a corruption of a frame that verifies is missed exactly when its masks fold to zero, so
one of a single byte never is. -/
def Obligations.ChecksumDetectsCorruption : Prop :=
  (∀ frame mask : List Byte, frame.length = mask.length → ckVerify frame = true →
    (ckVerify (List.zipWith (fun x y => x ^^^ y) frame mask) = true ↔ foldBytes mask = 0x00)) ∧
  (∀ (before after : List Byte) (x e : Byte), e ≠ 0x00 → ckVerify (before ++ x :: after) = true →
    ckVerify (before ++ (x ^^^ e) :: after) = false)

/-! ### Framer -/

/-- R100: the chunk at `off` has `min(MSS, L - off)` bytes, between 1 and `MSS`, read at consecutive offsets, and
nothing of the block is written. That `off >= L`, which R100 only calls outside the precondition, has no step is the
model's choice (log 12), and so is that an unwritten byte, or one at or beyond `payload_len`, reads alike twice (log 10). -/
def Obligations.SplitAnswersTheChunk : Prop :=
  ∀ (s : State) (off len : Nat),
    (off < len → ∃ chunk : List Byte,
      exec (.frSplit off len) s = .next { s with returned := some (.chunk (min s.cfg.mss (len - off)) chunk) } ∧
      chunk.length = min s.cfg.mss (len - off) ∧
      (1 ≤ s.cfg.mss → 1 ≤ chunk.length ∧ chunk.length ≤ s.cfg.mss) ∧
      ∀ i, i < chunk.length → chunk[i]? = some (s.payRead (off + i))) ∧
    (len ≤ off → exec (.frSplit off len) s = .refused .splitOutsidePayload)

/-- R101 (derived in the spec): the chunks at the multiples of `MSS`, `ceil(L / MSS)` of them, put together in order
are the payload, all but the last are full and the last is not empty. That an unwritten byte, or one at or beyond
`payload_len`, reads alike twice is the model's choice (log 10). -/
def Obligations.ChunksReassembleThePayload : Prop :=
  ∀ (s : State) (len : Nat), 1 ≤ s.cfg.mss →
    ((List.range ((len + s.cfg.mss - 1) / s.cfg.mss)).map (fun k => s.chunk (k * s.cfg.mss) len)).flatten =
      (List.range len).map s.payRead ∧
    (∀ k, k + 1 < (len + s.cfg.mss - 1) / s.cfg.mss → (s.chunk (k * s.cfg.mss) len).length = s.cfg.mss) ∧
    (∀ k, k + 1 = (len + s.cfg.mss - 1) / s.cfg.mss →
      1 ≤ (s.chunk (k * s.cfg.mss) len).length ∧ (s.chunk (k * s.cfg.mss) len).length = len - k * s.cfg.mss)

/-- R102: the number moves on by `MSS` modulo 256, whatever the chunk's length. -/
def Obligations.NextSeqnumAdvancesByMss : Prop :=
  ∀ (s : State) (prev : Byte) (chunkLen : Nat), ∃ b : Byte,
    exec (.frNextSeqnum prev chunkLen) s = .next { s with returned := some (.byte b) } ∧
    b.toNat = (prev.toNat + s.cfg.mss) % 256

/-- R103 (derived in the spec): the number returns exactly at the multiples of `256 / gcd(MSS, 256)`. -/
def Obligations.SequenceNumbersAreAPeriod : Prop :=
  ∀ (c : Config) (x : Byte) (n chunkLen : Nat),
    (fun b => frNextSeqnum c b chunkLen)^[n] x = x ↔ 256 / Nat.gcd c.mss 256 ∣ n

/-- R104: the frame is checksum, acknum, seqnum, chunk, the checksum the complement of the fold of the rest. -/
def Obligations.BuildSerializesTheFrame : Prop :=
  ∀ (s : State) (seqnum acknum : Byte) (chunk : List Byte),
    exec (.frBuild seqnum acknum chunk) s = .next { s with
      returned := some (.frame ((foldBytes (acknum :: seqnum :: chunk) ^^^ 0xFF) :: acknum :: seqnum :: chunk)) }

/-- R107 (the spec's own decision): malformed by length alone, else the fields by offset. -/
def Obligations.ParseReadsTheFields : Prop :=
  ∀ (s : State) (frame : List Byte),
    (frame.length < 3 ∨ 3 + s.cfg.mss < frame.length →
      exec (.frParse frame) s = .next { s with returned := some .malformed }) ∧
    (3 ≤ frame.length → frame.length ≤ 3 + s.cfg.mss → ∃ f : FrameFields,
      exec (.frParse frame) s = .next { s with returned := some (.fields f) } ∧
      frame[0]? = some f.checksum ∧ frame[1]? = some f.acknum ∧ frame[2]? = some f.seqnum ∧ f.payload = frame.drop 3)

/-- R105 and R108 (derived in the spec): a built frame verifies and parses back; a frame that parses is its own
rebuilding exactly when it verifies, and else differs from it in the checksum alone. -/
def Obligations.BuildAndParseAreInverse : Prop :=
  (∀ (c : Config) (seqnum acknum : Byte) (chunk : List Byte), chunk.length ≤ c.mss →
    ckVerify (frBuild seqnum acknum chunk) = true ∧ (frBuild seqnum acknum chunk).length = 3 + chunk.length ∧
    frParse c (frBuild seqnum acknum chunk) = some ⟨ckCompute (acknum :: seqnum :: chunk), acknum, seqnum, chunk⟩) ∧
  (∀ (c : Config) (frame : List Byte) (f : FrameFields), frParse c frame = some f →
    (frBuild f.seqnum f.acknum f.payload = frame ↔ ckVerify frame = true) ∧
    (frBuild f.seqnum f.acknum f.payload).drop 1 = frame.drop 1)

/-! ### Timer -/

/-- R121 and R130 (the spec's own decisions): the starting values of the timer, and a wait begun anew. -/
def Obligations.TimerInitAndArm : Prop :=
  ∀ s : State, s.cfg.Valid →
    exec .tmInit s = .next { s with timeout := s.cfg.tInit, dupCount := 0, elapsed := 0 } ∧
    exec .tmArm s = .next { s with elapsed := 0, history := s.history ++ [.setTimeout s.timeout] }

/-- R123: `timeout <- max(T_MIN, timeout - T_STEP)`, and nothing else is written. -/
def Obligations.CleanDeliveryShrinksTimeout : Prop :=
  ∀ s : State, s.cfg.Valid → s.Sized →
    exec .tmClean s = .next { s with timeout := max s.cfg.tMin (s.timeout - s.cfg.tStep) }

/-- R124 (derived in the spec): any number of clean deliveries never takes the timeout below the floor nor raises it. -/
def Obligations.CleanDeliveriesStopAtTheFloor : Prop :=
  ∀ (s : State) (k : Nat), s.cfg.Valid → s.Sized → s.cfg.tMin ≤ s.timeout →
    execAll (List.replicate k .tmClean) s = .next { s with timeout := max s.cfg.tMin (s.timeout - k * s.cfg.tStep) } ∧
    max s.cfg.tMin (s.timeout - k * s.cfg.tStep) ≤ s.timeout

/-- R125: the count goes up by one; at the third failure the timeout doubles exactly and the count is cleared. -/
def Obligations.FailureCountsAndDoubles : Prop :=
  ∀ s : State, 2 * s.timeout < 2 ^ s.cfg.tw →
    (∀ d : Fin 3, s.dupCount.val + 1 = d.val → exec .tmFail s = .next { s with dupCount := d }) ∧
    (s.dupCount.val + 1 = 3 → exec .tmFail s = .next { s with timeout := s.timeout * 2, dupCount := 0 })

/-- R126 (derived in the spec): from count `d`, the doubling comes on call `3 - d` and not before. -/
def Obligations.ThirdFailureDoubles : Prop :=
  ∀ (s : State) (n : Nat), 2 * s.timeout < 2 ^ s.cfg.tw →
    (∀ d : Fin 3, s.dupCount.val + n = d.val →
      execAll (List.replicate n .tmFail) s = .next { s with dupCount := d }) ∧
    (s.dupCount.val + n = 3 → execAll (List.replicate n .tmFail) s = .next { s with timeout := 2 * s.timeout, dupCount := 0 })

/-- R127: exhausted is strictly above the ceiling; nothing of the block is written. -/
def Obligations.ExhaustedIsAboveTheCeiling : Prop :=
  ∀ s : State,
    (s.cfg.tMax < s.timeout → exec .tmExhausted s = .next { s with returned := some (.bool true) }) ∧
    (s.timeout ≤ s.cfg.tMax → exec .tmExhausted s = .next { s with returned := some (.bool false) })

/-- R132 (the spec's own decision): outside `AwaitingAck` a tick changes nothing; in it, it is counted until the
`timeout`-th, which expires and leaves `elapsed`. That the operation alone marks TransmissionTimeout is the model's
reading (log 23), that it answers in `returned` the model's choice (log 11). -/
def Obligations.TimerTickCountsTheWait : Prop :=
  ∀ s : State, s.Sized →
    (s.state ≠ .awaitingAck → exec .tmTick s = .next { s with returned := some (.tickResult .waiting) }) ∧
    (s.state = .awaitingAck → s.elapsed + 1 < s.timeout →
      exec .tmTick s = .next { s with elapsed := s.elapsed + 1, returned := some (.tickResult .waiting) }) ∧
    (s.state = .awaitingAck → s.timeout ≤ s.elapsed + 1 →
      exec .tmTick s = .next { s with
        history := s.history ++ [.raised .transmissionTimeout], returned := some (.tickResult .expired) })

/-! ### Engine -/

/-- `START` where no session runs builds the whole session state and transmits nothing; an empty payload completes at
once (R140, the spec's own decision). The bytes of `pending_frame` stay: the model's choice (log 27). -/
def Obligations.StartBuildsASession : Prop :=
  ∀ (s : State) (len : Nat) (isn : Byte), s.cfg.Valid → len < 2 ^ s.cfg.lw →
    (s.state = .noSession ∨ s.state = .completed ∨ s.state = .aborted) →
    exec (.start len isn) s = .next { s with
      payloadLen := len, segOff := 0, currentSeqnum := isn, prevSeqnum := 0x00, prevValid := false, pendingLen := 0,
      timeout := s.cfg.tInit, dupCount := 0, elapsed := 0,
      state := if len = 0 then .completed else .idle, result := if len = 0 then .ok else .none }

/-- The events and steps outside their states have no step (R12, R42, R78, R141, R143, R160). -/
def Obligations.EventsOutsideTheirStatesHaveNoStep : Prop :=
  ∀ s : State,
    (s.state = .idle ∨ s.state = .awaitingAck ∨ s.state = .advancing →
      ∀ len isn, exec (.start len isn) s = .refused .startWhileBusy) ∧
    (s.state ≠ .awaitingAck → ∀ frame, exec (.rx frame) s = .refused .rxNotReady) ∧
    (s.state ≠ .idle → exec .xmit s = .refused .xmitNotIdle) ∧
    (s.state ≠ .advancing → exec .next s = .refused .nextNotAdvancing)

/-- A session carries nothing over from the one before: two states that differ in registers only become equal at
`START`, but for the bytes of `pending_frame` (R36, R140, R204). -/
def Obligations.StartForgetsThePast : Prop :=
  ∀ (s u : State) (len : Nat) (isn : Byte), s.cfg = u.cfg → s.startReady = true → u.startReady = true →
    ∃ t, exec (.start len isn) u = .next t ∧
      exec (.start len isn) s = .next { t with
        pendingFrame := s.pendingFrame, payload := s.payload, script := s.script, history := s.history,
        returned := s.returned, freeCount := s.freeCount }

/-- `XMIT` frames the current segment from the payload buffer, keeps the frame, sends it once and begins a wait (R143).
How the block takes it by itself beside a schedule, an item that has no step not preventing it, is the model's choice
(log 15, log 19); so is that `pending_frame` keeps its bytes beyond the frame (log 27), that its reads see one snapshot of
the buffer (log 28), and that an unwritten byte reads alike twice (log 10). -/
def Obligations.XmitSendsTheSegment : Prop :=
  ∀ s : State, s.cfg.Valid → s.Sized → s.state = .idle → s.segOff < s.payloadLen →
    ∃ (chunk frame : List Byte), chunk.length = min s.cfg.mss (s.payloadLen - s.segOff) ∧
      (∀ i, i < chunk.length → chunk[i]? = some (s.payRead (s.segOff + i))) ∧
      frame = (foldBytes (s.cfg.dataAcknum :: s.currentSeqnum :: chunk) ^^^ 0xFF) ::
        s.cfg.dataAcknum :: s.currentSeqnum :: chunk ∧
      exec .xmit s = .next { s with
        pendingFrame := frame ++ s.pendingFrame.drop (3 + chunk.length), pendingLen := 3 + chunk.length,
        elapsed := 0, state := .awaitingAck, history := s.history ++ [.tx frame, .setTimeout s.timeout] } ∧
      (s.script = [] → step s = exec .xmit s) ∧
      (∀ r, offered s = .refused r → step s = exec .xmit (s.afterUnaccepted r))

/-- What `PayRead` answers inside the payload is the byte the host put there (R50, the spec's own decision). That every
other address reads as before, also one the host has not written or one at or beyond `payload_len`, where R50 defines no
value, is the model's choice (log 10). -/
def Obligations.PayReadIsTheHostsByte : Prop :=
  ∀ (s : State) (a : Nat) (b : Byte), a < s.payloadLen → (s.payload.write a b).read a = some b ∧
    ({ s with payload := s.payload.write a b } : State).payRead a = b ∧
    ∀ x, x ≠ a → ({ s with payload := s.payload.write a b } : State).payRead x = s.payRead x

/-- R148: the class of a received frame, in the order malformed, checksum, good, stale, out-of-order, and the error
class it raises; nothing of the block is written. Good before stale (D22), the readings of the echo (D9) and of the
previous number (D11) and the malformed lengths (R107, D13) are the spec's own decisions. -/
def Obligations.ClassifyFollowsTheOrder : Prop :=
  ∀ (s : State) (frame : List Byte), ∃ (c : FrameClass) (marks : List Output),
    exec (.engClassify frame) s = .next { s with history := s.history ++ marks, returned := some (.frameClass c) } ∧
    (c = .corrupt ↔ ¬ Intact s.cfg frame) ∧
    (c = .good ↔ Intact s.cfg frame ∧
      frame[1]? = some (BitVec.ofNat 8 (s.currentSeqnum.toNat + (s.pendingLen - 3)))) ∧
    (c = .stale ↔ Intact s.cfg frame ∧
      frame[1]? ≠ some (BitVec.ofNat 8 (s.currentSeqnum.toNat + (s.pendingLen - 3))) ∧
      (frame.length = s.cfg.echoLen ∨ s.prevValid = true ∧ frame[1]? = some s.prevSeqnum)) ∧
    (c = .ooo ↔ Intact s.cfg frame ∧
      frame[1]? ≠ some (BitVec.ofNat 8 (s.currentSeqnum.toNat + (s.pendingLen - 3))) ∧
      ¬ (frame.length = s.cfg.echoLen ∨ s.prevValid = true ∧ frame[1]? = some s.prevSeqnum)) ∧
    (c = .corrupt → marks = [.raised .corruptedFrame]) ∧ (c = .good → marks = []) ∧
    (c = .stale → marks = [.raised .staleAck]) ∧ (c = .ooo → marks = [.raised .outOfOrderAck])

/-- R149 (derived in the spec): after the first segment, the previous number equals the expected acknum exactly when
`(MSS + c) mod 256 = 0`, and an intact frame that carries it is then good. -/
def Obligations.GoodBeatsStale : Prop :=
  ∀ s : State, s.NumbersFollow → s.prevValid = true →
    (s.expectedAck = s.prevSeqnum ↔ (s.cfg.mss + (s.pendingLen - 3)) % 256 = 0) ∧
    (∀ frame : List Byte, Intact s.cfg frame → frame[1]? = some s.prevSeqnum →
      (s.cfg.mss + (s.pendingLen - 3)) % 256 = 0 → s.classify frame = .good)

/-- R146: in `AwaitingAck` exactly one arm is taken, that of the frame's class, and the wait ends; in every other state a
received frame has no step. That the other arms, as operations, have no step is the model's choice (log 13). -/
def Obligations.RxTakesExactlyOneArm : Prop :=
  ∀ (s : State) (frame : List Byte),
    (s.state ≠ .awaitingAck → exec (.rx frame) s = .refused .rxNotReady) ∧
    (s.state = .awaitingAck →
    (exec (.rxCorrupt frame) s = if s.classify frame = .corrupt then exec (.rx frame) s else .refused .armNotSelected) ∧
    (exec (.rxGood frame) s = if s.classify frame = .good then exec (.rx frame) s else .refused .armNotSelected) ∧
    (exec (.rxStale frame) s = if s.classify frame = .stale then exec (.rx frame) s else .refused .armNotSelected) ∧
    (exec (.rxOoo frame) s = if s.classify frame = .ooo then exec (.rx frame) s else .refused .armNotSelected) ∧
    ∃ t, exec (.rx frame) s = .next t ∧
      (t.state = .advancing ∨ t.state = .aborted ∨ t.state = .awaitingAck ∧ t.elapsed = 0))

/-- R150: transmit the stored frame, count, double at the third, test the ceiling; abort, or wait again. That the frame
is sent also when the event aborts (D21) and that the wait restarts (R130, D12) are the spec's own decisions. -/
def Obligations.FailureStep : Prop :=
  ∀ (s : State) (d : Fin 3) (v : Nat), 2 * s.timeout < 2 ^ s.cfg.tw →
    (s.dupCount.val + 1 = d.val ∧ v = s.timeout ∨ s.dupCount.val + 1 = 3 ∧ d = 0 ∧ v = 2 * s.timeout) →
    (v ≤ s.cfg.tMax → exec .engFail s = .next { s with
      dupCount := d, timeout := v, elapsed := 0, state := .awaitingAck,
      history := s.history ++ [.tx (s.pendingFrame.take s.pendingLen), .setTimeout v] }) ∧
    (s.cfg.tMax < v → exec .engFail s = .next { s with
      dupCount := d, timeout := v, state := .aborted, result := .fatalTimeoutCeilingExceeded,
      history := s.history ++ [.tx (s.pendingFrame.take s.pendingLen), .raised .fatalTimeoutCeilingExceeded] })

/-- R151 and R156: the corrupt and the out-of-order arm are `ENG_FAIL` after their mark, and complete; all corrupt
frames act alike; the two arms differ in the mark alone; while the first segment is in flight every intact frame that
is neither good nor of the echo length is out-of-order. -/
def Obligations.BadFramesRunTheFailureStep : Prop :=
  ∀ (s : State) (f g : List Byte), s.state = .awaitingAck →
    (s.classify f = .corrupt →
      exec (.rxCorrupt f) s = exec .engFail { s with history := s.history ++ [.raised .corruptedFrame] } ∧
      (∃ t, exec (.rxCorrupt f) s = .next t) ∧
      (s.classify g = .corrupt → exec (.rx g) s = exec (.rx f) s)) ∧
    (s.classify g = .ooo →
      exec (.rxOoo g) s = exec .engFail { s with history := s.history ++ [.raised .outOfOrderAck] } ∧
      (∃ t, exec (.rxOoo g) s = .next t)) ∧
    (s.classify f = .corrupt → s.classify g = .ooo → ∃ t u, exec (.rxCorrupt f) s = .next t ∧
      exec (.rxOoo g) s = .next u ∧ u = { t with history := u.history } ∧ u.txs = t.txs) ∧
    (s.prevValid = false → Intact s.cfg g → s.classify g ≠ .good → g.length ≠ s.cfg.echoLen → s.classify g = .ooo)

/-- R152: a good frame shrinks the timeout, clears the count, moves the number on by `MSS` and the offset by the chunk
confirmed, and goes to `Advancing`; nothing is transmitted. That offset, previous number and its validity are written in
this arm is the spec's own choice (D19). -/
def Obligations.GoodFrameAdvances : Prop :=
  ∀ (s : State) (frame : List Byte), s.cfg.Valid → s.Sized → s.state = .awaitingAck → s.classify frame = .good →
    s.segOff + (s.pendingLen - 3) ≤ s.payloadLen →
    exec (.rxGood frame) s = .next { s with
      timeout := max s.cfg.tMin (s.timeout - s.cfg.tStep), dupCount := 0, prevSeqnum := s.currentSeqnum,
      prevValid := true, currentSeqnum := BitVec.ofNat 8 (s.currentSeqnum.toNat + s.cfg.mss),
      segOff := s.segOff + (s.pendingLen - 3), state := .advancing }

/-- R154: a stale frame has the stored frame sent again and the wait begun anew, the timer untouched. That the wait
restarts, `elapsed` at 0 and the timeout announced, is the spec's own inference (R154, D12). -/
def Obligations.StaleFrameRetransmits : Prop :=
  ∀ (s : State) (frame : List Byte), s.state = .awaitingAck → s.classify frame = .stale →
    exec (.rxStale frame) s = .next { s with
      elapsed := 0,
      history := s.history ++ [.raised .staleAck, .tx (s.pendingFrame.take s.pendingLen), .setTimeout s.timeout] }

/-- R132 and R158: a tick is inert outside `AwaitingAck`, counts in it (the spec's own decision), and at the `timeout`-th
runs the arm, which is `ENG_FAIL` after TransmissionTimeout is marked. That the arm, as an operation, has no step before
that is the model's choice (log 13). -/
def Obligations.TickCountsOrFails : Prop :=
  ∀ s : State, s.Sized →
    (s.state ≠ .awaitingAck → exec .tick s = .next s ∧ exec .tickTimeout s = .refused .armNotSelected) ∧
    (s.state = .awaitingAck → s.elapsed + 1 < s.timeout →
      exec .tick s = .next { s with elapsed := s.elapsed + 1 } ∧ exec .tickTimeout s = .refused .armNotSelected) ∧
    (s.state = .awaitingAck → s.timeout ≤ s.elapsed + 1 →
      exec .tick s = exec .engFail { s with history := s.history ++ [.raised .transmissionTimeout] } ∧
      exec .tickTimeout s = exec .tick s ∧ ∃ t, exec .tickTimeout s = .next t)

/-- R160: more bytes left, back to `Idle`; none left, `Completed` with success. How the block takes it by itself beside a
schedule, an item that has no step not preventing it, is the model's choice (log 15, with R178). -/
def Obligations.NextDecidesByBytesLeft : Prop :=
  ∀ s : State, s.state = .advancing →
    (s.segOff < s.payloadLen → exec .next s = .next { s with state := .idle }) ∧
    (s.payloadLen ≤ s.segOff → exec .next s = .next { s with state := .completed, result := .ok }) ∧
    (s.cfg.Valid → s.script = [] → step s = exec .next s) ∧
    (s.cfg.Valid → ∀ r, offered s = .refused r → step s = exec .next (s.afterUnaccepted r))

/-- The wire layouts (R71, R72): the frame `XMIT` builds is a data frame of the session, 4 to `3 + MSS` bytes, and
sending it is `XMIT`; a received frame is an `RX`. Their meanings are the model's reading (log 4, log 5). -/
def Obligations.WireFramesAreXmitAndRx : Prop :=
  (∀ s : State, s.cfg.Valid → s.state = .idle → s.segOff < s.payloadLen →
    ∃ (c : Byte) (p : List Byte), s.segmentFrame = c :: s.cfg.dataAcknum :: s.currentSeqnum :: p ∧
      1 ≤ p.length ∧ p.length ≤ s.cfg.mss ∧ ckVerify s.segmentFrame = true ∧
      exec (.frameData c s.cfg.dataAcknum s.currentSeqnum p) s = exec .xmit s ∧
      (∃ t, exec (.frameData c s.cfg.dataAcknum s.currentSeqnum p) s = .next t) ∧
      ∀ c' a' q' p', c' :: a' :: q' :: p' ≠ s.segmentFrame →
        exec (.frameData c' a' q' p') s = .refused .frameNotBuilt) ∧
  (∀ (s : State) (c a q : Byte) (p : List Byte), s.state = .awaitingAck →
    exec (.frameAck c a q p) s = exec (.rx (c :: a :: q :: p)) s ∧ ∃ t, exec (.frameAck c a q p) s = .next t)

/-! ### The whole machine -/

/-- R144: what each operation hands to the channel, never more than one frame; nor does a step. That a failure
transmits also when the event aborts is the spec's own decision (D21). -/
def Obligations.EachTransitionTransmitsAtMostOnce : Prop :=
  (∀ (i : Instr) (s t : State), exec i s = .next t →
    t.txs = s.txs ++ transmitted i s ∧ (transmitted i s).length ≤ 1) ∧
  (∀ s t : State, step s = .next t → ∃ sent : List (List Byte), t.txs = s.txs ++ sent ∧ sent.length ≤ 1)

/-- R142 (the spec's own decision): every accepted event is a row of the transition graph. -/
def Obligations.EventsFollowTheGraph : Prop :=
  ∀ (i : Instr) (s t : State), i.kind ≠ .sub → i.wf s.cfg = true → exec i s = .next t → graphEdge i s t

/-- R20's column "written by", and the frame of every operation: the build, the payload buffer and the schedule are
written by none, and each register only by its writers. That the bytes of `pending_frame` beyond a frame `XMIT` stores
stay is the model's choice (log 27). -/
def Obligations.RegistersAreWrittenByTheirWriters : Prop :=
  ∀ (i : Instr) (s t : State), exec i s = .next t →
    t.cfg = s.cfg ∧ t.script = s.script ∧ (∀ a, t.payload.read a = s.payload.read a) ∧ t.payload = s.payload ∧
    (match i with
      | .reset => True
      | .start _ _ => True
      | _ => t.payloadLen = s.payloadLen) ∧
    (match i with
      | .reset => True
      | .start _ _ => True
      | .rx f => s.classify f = .good ∨ t.currentSeqnum = s.currentSeqnum ∧ t.prevSeqnum = s.prevSeqnum ∧
          t.prevValid = s.prevValid ∧ t.segOff = s.segOff
      | .frameAck c a q p => s.classify (c :: a :: q :: p) = .good ∨ t.currentSeqnum = s.currentSeqnum ∧
          t.prevSeqnum = s.prevSeqnum ∧ t.prevValid = s.prevValid ∧ t.segOff = s.segOff
      | .rxGood _ => True
      | _ => t.currentSeqnum = s.currentSeqnum ∧ t.prevSeqnum = s.prevSeqnum ∧ t.prevValid = s.prevValid ∧
          t.segOff = s.segOff) ∧
    (match i with
      | .reset => True
      | .start _ _ => True
      | .xmit => True
      | .frameData _ _ _ _ => True
      | _ => t.pendingLen = s.pendingLen) ∧
    (match i with
      | .reset => True
      | .xmit => ∀ j, s.segmentFrame.length ≤ j → t.pendingByte j = s.pendingByte j
      | .frameData _ _ _ _ => ∀ j, s.segmentFrame.length ≤ j → t.pendingByte j = s.pendingByte j
      | _ => (∀ j, t.pendingByte j = s.pendingByte j) ∧ t.freeCount = s.freeCount) ∧
    (i.kind ≠ .sub → t.returned = s.returned) ∧
    (i.kind = .sub → i ≠ .engFail → t.state = s.state ∧ t.result = s.result) ∧
    (match i with
      | .reset => True
      | .start _ _ => True
      | .rx _ => True
      | .frameAck _ _ _ _ => True
      | .rxCorrupt _ => True
      | .rxOoo _ => True
      | .tick => True
      | .tickTimeout => True
      | .engFail => True
      | .tmInit => True
      | .xmit => t.timeout = s.timeout ∧ t.dupCount = s.dupCount ∧ t.result = s.result
      | .frameData _ _ _ _ => t.timeout = s.timeout ∧ t.dupCount = s.dupCount ∧ t.result = s.result
      | .next => t.timeout = s.timeout ∧ t.dupCount = s.dupCount ∧ t.elapsed = s.elapsed
      | .rxStale _ => t.timeout = s.timeout ∧ t.dupCount = s.dupCount ∧ t.result = s.result
      | .rxGood _ => t.elapsed = s.elapsed ∧ t.result = s.result
      | .tmClean => t.dupCount = s.dupCount ∧ t.elapsed = s.elapsed
      | .tmFail => t.elapsed = s.elapsed
      | .tmArm => t.timeout = s.timeout ∧ t.dupCount = s.dupCount
      | .tmTick => t.timeout = s.timeout ∧ t.dupCount = s.dupCount
      | .ckCompute _ => t.timeout = s.timeout ∧ t.dupCount = s.dupCount ∧ t.elapsed = s.elapsed
      | .ckVerify _ => t.timeout = s.timeout ∧ t.dupCount = s.dupCount ∧ t.elapsed = s.elapsed
      | .frSplit _ _ => t.timeout = s.timeout ∧ t.dupCount = s.dupCount ∧ t.elapsed = s.elapsed
      | .frNextSeqnum _ _ => t.timeout = s.timeout ∧ t.dupCount = s.dupCount ∧ t.elapsed = s.elapsed
      | .frBuild _ _ _ => t.timeout = s.timeout ∧ t.dupCount = s.dupCount ∧ t.elapsed = s.elapsed
      | .frParse _ => t.timeout = s.timeout ∧ t.dupCount = s.dupCount ∧ t.elapsed = s.elapsed
      | .tmExhausted => t.timeout = s.timeout ∧ t.dupCount = s.dupCount ∧ t.elapsed = s.elapsed
      | .engClassify _ => t.timeout = s.timeout ∧ t.dupCount = s.dupCount ∧ t.elapsed = s.elapsed)

/-- R174 and R179: FatalTimeoutCeilingExceeded is marked only together with a mark of class 1, 3 or 4, on the third
failure of a run, never by `RX.STALE`, `RX.GOOD`, `START`, `XMIT` or `NEXT`; the entry writes `state` and `result`,
the timeout keeps the doubled value, the stored frame is sent once more (the spec's own decision, D21) and every other register stays. -/
def Obligations.AbortComesOnTheThirdFailure : Prop :=
  ∀ (i : Instr) (s t : State) (marks : List Output), s.Inv → i.kind ≠ .sub → exec i s = .next t →
    t.history = s.history ++ marks → .raised .fatalTimeoutCeilingExceeded ∈ marks →
    (.raised .corruptedFrame ∈ marks ∨ .raised .outOfOrderAck ∈ marks ∨ .raised .transmissionTimeout ∈ marks) ∧
    .tx s.storedFrame ∈ marks ∧ s.dupCount = 2 ∧ s.cfg.tMax < 2 * s.timeout ∧
    t = { s with
      state := .aborted, result := .fatalTimeoutCeilingExceeded, timeout := 2 * s.timeout, dupCount := 0,
      history := t.history } ∧
    (match i with
      | .rxStale _ => False
      | .rxGood _ => False
      | .start _ _ => False
      | .xmit => False
      | .next => False
      | _ => True)

/-- R162, and of R164 what it says of the registers: in `Completed` the result is success and the whole payload is
confirmed, in `Aborted` the result is the fatal one and the timeout above the ceiling; there no frame has a step, a tick
does nothing, and only `START` and `RESET` change anything. -/
def Obligations.TerminalStatesAreLeftByStartOrReset : Prop :=
  (∀ s : State, s.Inv → s.state = .completed → s.result = .ok ∧ s.done = true ∧ s.segOff = s.payloadLen) ∧
  (∀ s : State, s.Inv → s.state = .aborted →
    s.result = .fatalTimeoutCeilingExceeded ∧ s.fatal = true ∧ s.cfg.tMax < s.timeout) ∧
  (∀ s : State, s.state = .completed ∨ s.state = .aborted →
    (∀ frame, exec (.rx frame) s = .refused .rxNotReady) ∧ exec .tick s = .next s ∧
    ∀ (i : Instr) (t : State), i.kind ≠ .sub → exec i s = .next t →
      i = .reset ∨ (∃ len isn, i = .start len isn) ∨ i = .tick ∧ t = s)

/-- Whatever frames come and however the ticks fall after `XMIT`, every frame sent until the next `XMIT` is the one it
built, byte for byte (R63, R106, derived in the spec). -/
def Obligations.RetransmissionsAreVerbatim : Prop :=
  ∀ (s u t : State) (events : List Instr), s.cfg.Valid → s.Sized → exec .xmit s = .next u →
    (∀ i ∈ events, i = .tick ∨ ∃ frame, i = .rx frame) → execAll events u = .next t →
    ∃ n, u.txs = s.txs ++ [s.segmentFrame] ∧ t.txs = u.txs ++ List.replicate n s.segmentFrame

/-- R128 (derived in the spec): with every received frame corrupt, the session aborts at failure `3 * d - dup_count`
exactly, `d` the least number of doublings past the ceiling. That each failure, the aborting one too, has sent the
stored frame once is the spec's own decision (R144, R150, D21). -/
def Obligations.CorruptStreamAbortsExactly : Prop :=
  ∀ (s : State) (d : Nat) (frames : List (List Byte)), s.Inv → s.state = .awaitingAck →
    s.cfg.tMax < s.timeout * 2 ^ d → (∀ e, e < d → s.timeout * 2 ^ e ≤ s.cfg.tMax) →
    (∀ f ∈ frames, ¬ Intact s.cfg f) →
    (frames.length + s.dupCount.val < 3 * d →
      ∃ t, execAll (frames.map .rx) s = .next t ∧ t.state = .awaitingAck ∧ t.result = .none) ∧
    (frames.length + s.dupCount.val = 3 * d →
      ∃ t, execAll (frames.map .rx) s = .next t ∧ t.state = .aborted ∧ t.result = .fatalTimeoutCeilingExceeded ∧
        t.timeout = s.timeout * 2 ^ d ∧ t.dupCount = 0 ∧
        t.txs = s.txs ++ List.replicate frames.length s.storedFrame)

/-- R101, R143, R152, R160, R167: from `Idle`, one good acknowledgment for each of the `ceil((L - off) / MSS)` segments
left completes the session with success, and the frames sent, all intact, carry the bytes left of the payload in
order, none twice and none left out. That an unwritten byte reads alike twice is the model's choice (log 10). -/
def Obligations.CleanSessionDeliversThePayload : Prop :=
  ∀ s : State, s.Inv → s.state = .idle →
    ∃ (acknums : List Byte) (frames : List (List Byte)) (t : State),
      acknums.length = (s.payloadLen - s.segOff + s.cfg.mss - 1) / s.cfg.mss ∧
      execAll (acknums.flatMap (fun a => [.xmit, .rx (ackFrame a 0x00), .next])) s = .next t ∧
      t.state = .completed ∧ t.result = .ok ∧ t.segOff = s.payloadLen ∧
      t.txs = s.txs ++ frames ∧ frames.length = acknums.length ∧ (∀ f ∈ frames, Intact s.cfg f) ∧
      (frames.map (fun f => f.drop 3)).flatten =
        (List.range (s.payloadLen - s.segOff)).map (fun i => s.payRead (s.segOff + i))
end

