-- ==== Sys2Proof/Laws/Decode.lean ====
section
/-! SUPPORT. The bytes of a number give it back when they are enough. -/

namespace Sys2Proof

@[simp] theorem length_toBytes (k n : Nat) : (toBytes k n).length = k := by
  induction k generalizing n with
  | zero => rfl
  | succ k ih => simp [toBytes, ih]

theorem ofBytes_toBytes {k n : Nat} (h : n < 256 ^ k) : ofBytes (toBytes k n) = n := by
  induction k generalizing n with
  | zero => simp_all [toBytes, ofBytes]
  | succ k ih =>
    have : n / 256 < 256 ^ k := by
      rw [Nat.div_lt_iff_lt_mul (by norm_num)]
      rwa [pow_succ] at h
    simp only [toBytes, ofBytes, ih this, BitVec.toNat_ofNat]
    omega

theorem lt_pow_lenBytes {c : Config} {n : Nat} (h : n < 2 ^ c.lw) : n < 256 ^ c.lenBytes := by
  refine lt_of_lt_of_le h ?_
  rw [show (256 : Nat) = 2 ^ 8 from rfl, ← pow_mul]
  exact Nat.pow_le_pow_right (by norm_num) (by unfold Config.lenBytes; omega)

end Sys2Proof
end

