-- ==== Sys2Proof/Laws/State.lean ====
section
/-! SUPPORT. One lemma per field per update, true by unfolding; no later proof unfolds a record update. -/

namespace Sys2Proof.Machine.State

variable (s : State)

@[simp] theorem setTimeout_cfg (v : Nat) : (s.setTimeout v).cfg = s.cfg := rfl
@[simp] theorem setTimeout_state (v : Nat) : (s.setTimeout v).state = s.state := rfl
@[simp] theorem setTimeout_currentSeqnum (v : Nat) : (s.setTimeout v).currentSeqnum = s.currentSeqnum := rfl
@[simp] theorem setTimeout_prevSeqnum (v : Nat) : (s.setTimeout v).prevSeqnum = s.prevSeqnum := rfl
@[simp] theorem setTimeout_prevValid (v : Nat) : (s.setTimeout v).prevValid = s.prevValid := rfl
@[simp] theorem setTimeout_dupCount (v : Nat) : (s.setTimeout v).dupCount = s.dupCount := rfl
@[simp] theorem setTimeout_timeout (v : Nat) : (s.setTimeout v).timeout = v % 2 ^ s.cfg.tw := rfl
@[simp] theorem setTimeout_elapsed (v : Nat) : (s.setTimeout v).elapsed = s.elapsed := rfl
@[simp] theorem setTimeout_payloadLen (v : Nat) : (s.setTimeout v).payloadLen = s.payloadLen := rfl
@[simp] theorem setTimeout_segOff (v : Nat) : (s.setTimeout v).segOff = s.segOff := rfl
@[simp] theorem setTimeout_pendingFrame (v : Nat) : (s.setTimeout v).pendingFrame = s.pendingFrame := rfl
@[simp] theorem setTimeout_pendingLen (v : Nat) : (s.setTimeout v).pendingLen = s.pendingLen := rfl
@[simp] theorem setTimeout_result (v : Nat) : (s.setTimeout v).result = s.result := rfl
@[simp] theorem setTimeout_payload (v : Nat) : (s.setTimeout v).payload = s.payload := rfl
@[simp] theorem setTimeout_script (v : Nat) : (s.setTimeout v).script = s.script := rfl
@[simp] theorem setTimeout_history (v : Nat) : (s.setTimeout v).history = s.history := rfl
@[simp] theorem setTimeout_returned (v : Nat) : (s.setTimeout v).returned = s.returned := rfl
@[simp] theorem setTimeout_freeCount (v : Nat) : (s.setTimeout v).freeCount = s.freeCount := rfl

@[simp] theorem setElapsed_cfg (v : Nat) : (s.setElapsed v).cfg = s.cfg := rfl
@[simp] theorem setElapsed_state (v : Nat) : (s.setElapsed v).state = s.state := rfl
@[simp] theorem setElapsed_currentSeqnum (v : Nat) : (s.setElapsed v).currentSeqnum = s.currentSeqnum := rfl
@[simp] theorem setElapsed_prevSeqnum (v : Nat) : (s.setElapsed v).prevSeqnum = s.prevSeqnum := rfl
@[simp] theorem setElapsed_prevValid (v : Nat) : (s.setElapsed v).prevValid = s.prevValid := rfl
@[simp] theorem setElapsed_dupCount (v : Nat) : (s.setElapsed v).dupCount = s.dupCount := rfl
@[simp] theorem setElapsed_timeout (v : Nat) : (s.setElapsed v).timeout = s.timeout := rfl
@[simp] theorem setElapsed_elapsed (v : Nat) : (s.setElapsed v).elapsed = v % 2 ^ s.cfg.tw := rfl
@[simp] theorem setElapsed_payloadLen (v : Nat) : (s.setElapsed v).payloadLen = s.payloadLen := rfl
@[simp] theorem setElapsed_segOff (v : Nat) : (s.setElapsed v).segOff = s.segOff := rfl
@[simp] theorem setElapsed_pendingFrame (v : Nat) : (s.setElapsed v).pendingFrame = s.pendingFrame := rfl
@[simp] theorem setElapsed_pendingLen (v : Nat) : (s.setElapsed v).pendingLen = s.pendingLen := rfl
@[simp] theorem setElapsed_result (v : Nat) : (s.setElapsed v).result = s.result := rfl
@[simp] theorem setElapsed_payload (v : Nat) : (s.setElapsed v).payload = s.payload := rfl
@[simp] theorem setElapsed_script (v : Nat) : (s.setElapsed v).script = s.script := rfl
@[simp] theorem setElapsed_history (v : Nat) : (s.setElapsed v).history = s.history := rfl
@[simp] theorem setElapsed_returned (v : Nat) : (s.setElapsed v).returned = s.returned := rfl
@[simp] theorem setElapsed_freeCount (v : Nat) : (s.setElapsed v).freeCount = s.freeCount := rfl

@[simp] theorem setPayloadLen_cfg (v : Nat) : (s.setPayloadLen v).cfg = s.cfg := rfl
@[simp] theorem setPayloadLen_state (v : Nat) : (s.setPayloadLen v).state = s.state := rfl
@[simp] theorem setPayloadLen_currentSeqnum (v : Nat) : (s.setPayloadLen v).currentSeqnum = s.currentSeqnum := rfl
@[simp] theorem setPayloadLen_prevSeqnum (v : Nat) : (s.setPayloadLen v).prevSeqnum = s.prevSeqnum := rfl
@[simp] theorem setPayloadLen_prevValid (v : Nat) : (s.setPayloadLen v).prevValid = s.prevValid := rfl
@[simp] theorem setPayloadLen_dupCount (v : Nat) : (s.setPayloadLen v).dupCount = s.dupCount := rfl
@[simp] theorem setPayloadLen_timeout (v : Nat) : (s.setPayloadLen v).timeout = s.timeout := rfl
@[simp] theorem setPayloadLen_elapsed (v : Nat) : (s.setPayloadLen v).elapsed = s.elapsed := rfl
@[simp] theorem setPayloadLen_payloadLen (v : Nat) : (s.setPayloadLen v).payloadLen = v % 2 ^ s.cfg.lw := rfl
@[simp] theorem setPayloadLen_segOff (v : Nat) : (s.setPayloadLen v).segOff = s.segOff := rfl
@[simp] theorem setPayloadLen_pendingFrame (v : Nat) : (s.setPayloadLen v).pendingFrame = s.pendingFrame := rfl
@[simp] theorem setPayloadLen_pendingLen (v : Nat) : (s.setPayloadLen v).pendingLen = s.pendingLen := rfl
@[simp] theorem setPayloadLen_result (v : Nat) : (s.setPayloadLen v).result = s.result := rfl
@[simp] theorem setPayloadLen_payload (v : Nat) : (s.setPayloadLen v).payload = s.payload := rfl
@[simp] theorem setPayloadLen_script (v : Nat) : (s.setPayloadLen v).script = s.script := rfl
@[simp] theorem setPayloadLen_history (v : Nat) : (s.setPayloadLen v).history = s.history := rfl
@[simp] theorem setPayloadLen_returned (v : Nat) : (s.setPayloadLen v).returned = s.returned := rfl
@[simp] theorem setPayloadLen_freeCount (v : Nat) : (s.setPayloadLen v).freeCount = s.freeCount := rfl

@[simp] theorem setSegOff_cfg (v : Nat) : (s.setSegOff v).cfg = s.cfg := rfl
@[simp] theorem setSegOff_state (v : Nat) : (s.setSegOff v).state = s.state := rfl
@[simp] theorem setSegOff_currentSeqnum (v : Nat) : (s.setSegOff v).currentSeqnum = s.currentSeqnum := rfl
@[simp] theorem setSegOff_prevSeqnum (v : Nat) : (s.setSegOff v).prevSeqnum = s.prevSeqnum := rfl
@[simp] theorem setSegOff_prevValid (v : Nat) : (s.setSegOff v).prevValid = s.prevValid := rfl
@[simp] theorem setSegOff_dupCount (v : Nat) : (s.setSegOff v).dupCount = s.dupCount := rfl
@[simp] theorem setSegOff_timeout (v : Nat) : (s.setSegOff v).timeout = s.timeout := rfl
@[simp] theorem setSegOff_elapsed (v : Nat) : (s.setSegOff v).elapsed = s.elapsed := rfl
@[simp] theorem setSegOff_payloadLen (v : Nat) : (s.setSegOff v).payloadLen = s.payloadLen := rfl
@[simp] theorem setSegOff_segOff (v : Nat) : (s.setSegOff v).segOff = v % 2 ^ s.cfg.lw := rfl
@[simp] theorem setSegOff_pendingFrame (v : Nat) : (s.setSegOff v).pendingFrame = s.pendingFrame := rfl
@[simp] theorem setSegOff_pendingLen (v : Nat) : (s.setSegOff v).pendingLen = s.pendingLen := rfl
@[simp] theorem setSegOff_result (v : Nat) : (s.setSegOff v).result = s.result := rfl
@[simp] theorem setSegOff_payload (v : Nat) : (s.setSegOff v).payload = s.payload := rfl
@[simp] theorem setSegOff_script (v : Nat) : (s.setSegOff v).script = s.script := rfl
@[simp] theorem setSegOff_history (v : Nat) : (s.setSegOff v).history = s.history := rfl
@[simp] theorem setSegOff_returned (v : Nat) : (s.setSegOff v).returned = s.returned := rfl
@[simp] theorem setSegOff_freeCount (v : Nat) : (s.setSegOff v).freeCount = s.freeCount := rfl

@[simp] theorem setPendingLen_cfg (v : Nat) : (s.setPendingLen v).cfg = s.cfg := rfl
@[simp] theorem setPendingLen_state (v : Nat) : (s.setPendingLen v).state = s.state := rfl
@[simp] theorem setPendingLen_currentSeqnum (v : Nat) : (s.setPendingLen v).currentSeqnum = s.currentSeqnum := rfl
@[simp] theorem setPendingLen_prevSeqnum (v : Nat) : (s.setPendingLen v).prevSeqnum = s.prevSeqnum := rfl
@[simp] theorem setPendingLen_prevValid (v : Nat) : (s.setPendingLen v).prevValid = s.prevValid := rfl
@[simp] theorem setPendingLen_dupCount (v : Nat) : (s.setPendingLen v).dupCount = s.dupCount := rfl
@[simp] theorem setPendingLen_timeout (v : Nat) : (s.setPendingLen v).timeout = s.timeout := rfl
@[simp] theorem setPendingLen_elapsed (v : Nat) : (s.setPendingLen v).elapsed = s.elapsed := rfl
@[simp] theorem setPendingLen_payloadLen (v : Nat) : (s.setPendingLen v).payloadLen = s.payloadLen := rfl
@[simp] theorem setPendingLen_segOff (v : Nat) : (s.setPendingLen v).segOff = s.segOff := rfl
@[simp] theorem setPendingLen_pendingFrame (v : Nat) : (s.setPendingLen v).pendingFrame = s.pendingFrame := rfl
@[simp] theorem setPendingLen_pendingLen (v : Nat) : (s.setPendingLen v).pendingLen = v % 2 ^ s.cfg.lw := rfl
@[simp] theorem setPendingLen_result (v : Nat) : (s.setPendingLen v).result = s.result := rfl
@[simp] theorem setPendingLen_payload (v : Nat) : (s.setPendingLen v).payload = s.payload := rfl
@[simp] theorem setPendingLen_script (v : Nat) : (s.setPendingLen v).script = s.script := rfl
@[simp] theorem setPendingLen_history (v : Nat) : (s.setPendingLen v).history = s.history := rfl
@[simp] theorem setPendingLen_returned (v : Nat) : (s.setPendingLen v).returned = s.returned := rfl
@[simp] theorem setPendingLen_freeCount (v : Nat) : (s.setPendingLen v).freeCount = s.freeCount := rfl

@[simp] theorem emit_cfg (o : Output) : (s.emit o).cfg = s.cfg := rfl
@[simp] theorem emit_state (o : Output) : (s.emit o).state = s.state := rfl
@[simp] theorem emit_currentSeqnum (o : Output) : (s.emit o).currentSeqnum = s.currentSeqnum := rfl
@[simp] theorem emit_prevSeqnum (o : Output) : (s.emit o).prevSeqnum = s.prevSeqnum := rfl
@[simp] theorem emit_prevValid (o : Output) : (s.emit o).prevValid = s.prevValid := rfl
@[simp] theorem emit_dupCount (o : Output) : (s.emit o).dupCount = s.dupCount := rfl
@[simp] theorem emit_timeout (o : Output) : (s.emit o).timeout = s.timeout := rfl
@[simp] theorem emit_elapsed (o : Output) : (s.emit o).elapsed = s.elapsed := rfl
@[simp] theorem emit_payloadLen (o : Output) : (s.emit o).payloadLen = s.payloadLen := rfl
@[simp] theorem emit_segOff (o : Output) : (s.emit o).segOff = s.segOff := rfl
@[simp] theorem emit_pendingFrame (o : Output) : (s.emit o).pendingFrame = s.pendingFrame := rfl
@[simp] theorem emit_pendingLen (o : Output) : (s.emit o).pendingLen = s.pendingLen := rfl
@[simp] theorem emit_result (o : Output) : (s.emit o).result = s.result := rfl
@[simp] theorem emit_payload (o : Output) : (s.emit o).payload = s.payload := rfl
@[simp] theorem emit_script (o : Output) : (s.emit o).script = s.script := rfl
@[simp] theorem emit_history (o : Output) : (s.emit o).history = s.history ++ [o] := rfl
@[simp] theorem emit_returned (o : Output) : (s.emit o).returned = s.returned := rfl
@[simp] theorem emit_freeCount (o : Output) : (s.emit o).freeCount = s.freeCount := rfl

@[simp] theorem raise_cfg (e : ErrorClass) : (s.raise e).cfg = s.cfg := rfl
@[simp] theorem raise_state (e : ErrorClass) : (s.raise e).state = s.state := rfl
@[simp] theorem raise_currentSeqnum (e : ErrorClass) : (s.raise e).currentSeqnum = s.currentSeqnum := rfl
@[simp] theorem raise_prevSeqnum (e : ErrorClass) : (s.raise e).prevSeqnum = s.prevSeqnum := rfl
@[simp] theorem raise_prevValid (e : ErrorClass) : (s.raise e).prevValid = s.prevValid := rfl
@[simp] theorem raise_dupCount (e : ErrorClass) : (s.raise e).dupCount = s.dupCount := rfl
@[simp] theorem raise_timeout (e : ErrorClass) : (s.raise e).timeout = s.timeout := rfl
@[simp] theorem raise_elapsed (e : ErrorClass) : (s.raise e).elapsed = s.elapsed := rfl
@[simp] theorem raise_payloadLen (e : ErrorClass) : (s.raise e).payloadLen = s.payloadLen := rfl
@[simp] theorem raise_segOff (e : ErrorClass) : (s.raise e).segOff = s.segOff := rfl
@[simp] theorem raise_pendingFrame (e : ErrorClass) : (s.raise e).pendingFrame = s.pendingFrame := rfl
@[simp] theorem raise_pendingLen (e : ErrorClass) : (s.raise e).pendingLen = s.pendingLen := rfl
@[simp] theorem raise_result (e : ErrorClass) : (s.raise e).result = s.result := rfl
@[simp] theorem raise_payload (e : ErrorClass) : (s.raise e).payload = s.payload := rfl
@[simp] theorem raise_script (e : ErrorClass) : (s.raise e).script = s.script := rfl
@[simp] theorem raise_history (e : ErrorClass) : (s.raise e).history = s.history ++ [.raised e] := rfl
@[simp] theorem raise_returned (e : ErrorClass) : (s.raise e).returned = s.returned := rfl
@[simp] theorem raise_freeCount (e : ErrorClass) : (s.raise e).freeCount = s.freeCount := rfl

@[simp] theorem answer_cfg (r : Returned) : (s.answer r).cfg = s.cfg := rfl
@[simp] theorem answer_state (r : Returned) : (s.answer r).state = s.state := rfl
@[simp] theorem answer_currentSeqnum (r : Returned) : (s.answer r).currentSeqnum = s.currentSeqnum := rfl
@[simp] theorem answer_prevSeqnum (r : Returned) : (s.answer r).prevSeqnum = s.prevSeqnum := rfl
@[simp] theorem answer_prevValid (r : Returned) : (s.answer r).prevValid = s.prevValid := rfl
@[simp] theorem answer_dupCount (r : Returned) : (s.answer r).dupCount = s.dupCount := rfl
@[simp] theorem answer_timeout (r : Returned) : (s.answer r).timeout = s.timeout := rfl
@[simp] theorem answer_elapsed (r : Returned) : (s.answer r).elapsed = s.elapsed := rfl
@[simp] theorem answer_payloadLen (r : Returned) : (s.answer r).payloadLen = s.payloadLen := rfl
@[simp] theorem answer_segOff (r : Returned) : (s.answer r).segOff = s.segOff := rfl
@[simp] theorem answer_pendingFrame (r : Returned) : (s.answer r).pendingFrame = s.pendingFrame := rfl
@[simp] theorem answer_pendingLen (r : Returned) : (s.answer r).pendingLen = s.pendingLen := rfl
@[simp] theorem answer_result (r : Returned) : (s.answer r).result = s.result := rfl
@[simp] theorem answer_payload (r : Returned) : (s.answer r).payload = s.payload := rfl
@[simp] theorem answer_script (r : Returned) : (s.answer r).script = s.script := rfl
@[simp] theorem answer_history (r : Returned) : (s.answer r).history = s.history := rfl
@[simp] theorem answer_returned (r : Returned) : (s.answer r).returned = some r := rfl
@[simp] theorem answer_freeCount (r : Returned) : (s.answer r).freeCount = s.freeCount := rfl

@[simp] theorem storeFrame_cfg (f : List Byte) : (s.storeFrame f).cfg = s.cfg := rfl
@[simp] theorem storeFrame_state (f : List Byte) : (s.storeFrame f).state = s.state := rfl
@[simp] theorem storeFrame_currentSeqnum (f : List Byte) : (s.storeFrame f).currentSeqnum = s.currentSeqnum := rfl
@[simp] theorem storeFrame_prevSeqnum (f : List Byte) : (s.storeFrame f).prevSeqnum = s.prevSeqnum := rfl
@[simp] theorem storeFrame_prevValid (f : List Byte) : (s.storeFrame f).prevValid = s.prevValid := rfl
@[simp] theorem storeFrame_dupCount (f : List Byte) : (s.storeFrame f).dupCount = s.dupCount := rfl
@[simp] theorem storeFrame_timeout (f : List Byte) : (s.storeFrame f).timeout = s.timeout := rfl
@[simp] theorem storeFrame_elapsed (f : List Byte) : (s.storeFrame f).elapsed = s.elapsed := rfl
@[simp] theorem storeFrame_payloadLen (f : List Byte) : (s.storeFrame f).payloadLen = s.payloadLen := rfl
@[simp] theorem storeFrame_segOff (f : List Byte) : (s.storeFrame f).segOff = s.segOff := rfl
@[simp] theorem storeFrame_pendingFrame (f : List Byte) : (s.storeFrame f).pendingFrame = f ++ s.pendingFrame.drop f.length := rfl
@[simp] theorem storeFrame_pendingLen (f : List Byte) : (s.storeFrame f).pendingLen = f.length % 2 ^ s.cfg.lw := rfl
@[simp] theorem storeFrame_result (f : List Byte) : (s.storeFrame f).result = s.result := rfl
@[simp] theorem storeFrame_payload (f : List Byte) : (s.storeFrame f).payload = s.payload := rfl
@[simp] theorem storeFrame_script (f : List Byte) : (s.storeFrame f).script = s.script := rfl
@[simp] theorem storeFrame_history (f : List Byte) : (s.storeFrame f).history = s.history := rfl
@[simp] theorem storeFrame_returned (f : List Byte) : (s.storeFrame f).returned = s.returned := rfl
@[simp] theorem storeFrame_freeCount (f : List Byte) : (s.storeFrame f).freeCount = s.freeCount := rfl

@[simp] theorem retransmit_cfg : (s.retransmit).cfg = s.cfg := rfl
@[simp] theorem retransmit_state : (s.retransmit).state = s.state := rfl
@[simp] theorem retransmit_currentSeqnum : (s.retransmit).currentSeqnum = s.currentSeqnum := rfl
@[simp] theorem retransmit_prevSeqnum : (s.retransmit).prevSeqnum = s.prevSeqnum := rfl
@[simp] theorem retransmit_prevValid : (s.retransmit).prevValid = s.prevValid := rfl
@[simp] theorem retransmit_dupCount : (s.retransmit).dupCount = s.dupCount := rfl
@[simp] theorem retransmit_timeout : (s.retransmit).timeout = s.timeout := rfl
@[simp] theorem retransmit_elapsed : (s.retransmit).elapsed = s.elapsed := rfl
@[simp] theorem retransmit_payloadLen : (s.retransmit).payloadLen = s.payloadLen := rfl
@[simp] theorem retransmit_segOff : (s.retransmit).segOff = s.segOff := rfl
@[simp] theorem retransmit_pendingFrame : (s.retransmit).pendingFrame = s.pendingFrame := rfl
@[simp] theorem retransmit_pendingLen : (s.retransmit).pendingLen = s.pendingLen := rfl
@[simp] theorem retransmit_result : (s.retransmit).result = s.result := rfl
@[simp] theorem retransmit_payload : (s.retransmit).payload = s.payload := rfl
@[simp] theorem retransmit_script : (s.retransmit).script = s.script := rfl
@[simp] theorem retransmit_history : (s.retransmit).history = s.history ++ [.tx s.storedFrame] := rfl
@[simp] theorem retransmit_returned : (s.retransmit).returned = s.returned := rfl
@[simp] theorem retransmit_freeCount : (s.retransmit).freeCount = s.freeCount := rfl

@[simp] theorem tmInit_cfg : (s.tmInit).cfg = s.cfg := rfl
@[simp] theorem tmInit_state : (s.tmInit).state = s.state := rfl
@[simp] theorem tmInit_currentSeqnum : (s.tmInit).currentSeqnum = s.currentSeqnum := rfl
@[simp] theorem tmInit_prevSeqnum : (s.tmInit).prevSeqnum = s.prevSeqnum := rfl
@[simp] theorem tmInit_prevValid : (s.tmInit).prevValid = s.prevValid := rfl
@[simp] theorem tmInit_dupCount : (s.tmInit).dupCount = 0 := rfl
@[simp] theorem tmInit_timeout : (s.tmInit).timeout = s.cfg.tInit % 2 ^ s.cfg.tw := rfl
@[simp] theorem tmInit_elapsed : (s.tmInit).elapsed = 0 := Nat.zero_mod _
@[simp] theorem tmInit_payloadLen : (s.tmInit).payloadLen = s.payloadLen := rfl
@[simp] theorem tmInit_segOff : (s.tmInit).segOff = s.segOff := rfl
@[simp] theorem tmInit_pendingFrame : (s.tmInit).pendingFrame = s.pendingFrame := rfl
@[simp] theorem tmInit_pendingLen : (s.tmInit).pendingLen = s.pendingLen := rfl
@[simp] theorem tmInit_result : (s.tmInit).result = s.result := rfl
@[simp] theorem tmInit_payload : (s.tmInit).payload = s.payload := rfl
@[simp] theorem tmInit_script : (s.tmInit).script = s.script := rfl
@[simp] theorem tmInit_history : (s.tmInit).history = s.history := rfl
@[simp] theorem tmInit_returned : (s.tmInit).returned = s.returned := rfl
@[simp] theorem tmInit_freeCount : (s.tmInit).freeCount = s.freeCount := rfl

@[simp] theorem tmArm_cfg : (s.tmArm).cfg = s.cfg := rfl
@[simp] theorem tmArm_state : (s.tmArm).state = s.state := rfl
@[simp] theorem tmArm_currentSeqnum : (s.tmArm).currentSeqnum = s.currentSeqnum := rfl
@[simp] theorem tmArm_prevSeqnum : (s.tmArm).prevSeqnum = s.prevSeqnum := rfl
@[simp] theorem tmArm_prevValid : (s.tmArm).prevValid = s.prevValid := rfl
@[simp] theorem tmArm_dupCount : (s.tmArm).dupCount = s.dupCount := rfl
@[simp] theorem tmArm_timeout : (s.tmArm).timeout = s.timeout := rfl
@[simp] theorem tmArm_elapsed : (s.tmArm).elapsed = 0 := Nat.zero_mod _
@[simp] theorem tmArm_payloadLen : (s.tmArm).payloadLen = s.payloadLen := rfl
@[simp] theorem tmArm_segOff : (s.tmArm).segOff = s.segOff := rfl
@[simp] theorem tmArm_pendingFrame : (s.tmArm).pendingFrame = s.pendingFrame := rfl
@[simp] theorem tmArm_pendingLen : (s.tmArm).pendingLen = s.pendingLen := rfl
@[simp] theorem tmArm_result : (s.tmArm).result = s.result := rfl
@[simp] theorem tmArm_payload : (s.tmArm).payload = s.payload := rfl
@[simp] theorem tmArm_script : (s.tmArm).script = s.script := rfl
@[simp] theorem tmArm_history : (s.tmArm).history = s.history ++ [.setTimeout s.timeout] := rfl
@[simp] theorem tmArm_returned : (s.tmArm).returned = s.returned := rfl
@[simp] theorem tmArm_freeCount : (s.tmArm).freeCount = s.freeCount := rfl

@[simp] theorem enterAborted_cfg : (s.enterAborted).cfg = s.cfg := rfl
@[simp] theorem enterAborted_state : (s.enterAborted).state = .aborted := rfl
@[simp] theorem enterAborted_currentSeqnum : (s.enterAborted).currentSeqnum = s.currentSeqnum := rfl
@[simp] theorem enterAborted_prevSeqnum : (s.enterAborted).prevSeqnum = s.prevSeqnum := rfl
@[simp] theorem enterAborted_prevValid : (s.enterAborted).prevValid = s.prevValid := rfl
@[simp] theorem enterAborted_dupCount : (s.enterAborted).dupCount = s.dupCount := rfl
@[simp] theorem enterAborted_timeout : (s.enterAborted).timeout = s.timeout := rfl
@[simp] theorem enterAborted_elapsed : (s.enterAborted).elapsed = s.elapsed := rfl
@[simp] theorem enterAborted_payloadLen : (s.enterAborted).payloadLen = s.payloadLen := rfl
@[simp] theorem enterAborted_segOff : (s.enterAborted).segOff = s.segOff := rfl
@[simp] theorem enterAborted_pendingFrame : (s.enterAborted).pendingFrame = s.pendingFrame := rfl
@[simp] theorem enterAborted_pendingLen : (s.enterAborted).pendingLen = s.pendingLen := rfl
@[simp] theorem enterAborted_result : (s.enterAborted).result = .fatalTimeoutCeilingExceeded := rfl
@[simp] theorem enterAborted_payload : (s.enterAborted).payload = s.payload := rfl
@[simp] theorem enterAborted_script : (s.enterAborted).script = s.script := rfl
@[simp] theorem enterAborted_history : (s.enterAborted).history = s.history ++ [.raised .fatalTimeoutCeilingExceeded] := rfl
@[simp] theorem enterAborted_returned : (s.enterAborted).returned = s.returned := rfl
@[simp] theorem enterAborted_freeCount : (s.enterAborted).freeCount = s.freeCount := rfl

@[simp] theorem waitAgain_cfg : (s.waitAgain).cfg = s.cfg := rfl
@[simp] theorem waitAgain_state : (s.waitAgain).state = .awaitingAck := rfl
@[simp] theorem waitAgain_currentSeqnum : (s.waitAgain).currentSeqnum = s.currentSeqnum := rfl
@[simp] theorem waitAgain_prevSeqnum : (s.waitAgain).prevSeqnum = s.prevSeqnum := rfl
@[simp] theorem waitAgain_prevValid : (s.waitAgain).prevValid = s.prevValid := rfl
@[simp] theorem waitAgain_dupCount : (s.waitAgain).dupCount = s.dupCount := rfl
@[simp] theorem waitAgain_timeout : (s.waitAgain).timeout = s.timeout := rfl
@[simp] theorem waitAgain_elapsed : (s.waitAgain).elapsed = 0 := Nat.zero_mod _
@[simp] theorem waitAgain_payloadLen : (s.waitAgain).payloadLen = s.payloadLen := rfl
@[simp] theorem waitAgain_segOff : (s.waitAgain).segOff = s.segOff := rfl
@[simp] theorem waitAgain_pendingFrame : (s.waitAgain).pendingFrame = s.pendingFrame := rfl
@[simp] theorem waitAgain_pendingLen : (s.waitAgain).pendingLen = s.pendingLen := rfl
@[simp] theorem waitAgain_result : (s.waitAgain).result = s.result := rfl
@[simp] theorem waitAgain_payload : (s.waitAgain).payload = s.payload := rfl
@[simp] theorem waitAgain_script : (s.waitAgain).script = s.script := rfl
@[simp] theorem waitAgain_history : (s.waitAgain).history = s.history ++ [.setTimeout s.timeout] := rfl
@[simp] theorem waitAgain_returned : (s.waitAgain).returned = s.returned := rfl
@[simp] theorem waitAgain_freeCount : (s.waitAgain).freeCount = s.freeCount := rfl

@[simp] theorem forgetFrame_cfg : (s.forgetFrame).cfg = s.cfg := rfl
@[simp] theorem forgetFrame_state : (s.forgetFrame).state = s.state := rfl
@[simp] theorem forgetFrame_currentSeqnum : (s.forgetFrame).currentSeqnum = s.currentSeqnum := rfl
@[simp] theorem forgetFrame_prevSeqnum : (s.forgetFrame).prevSeqnum = s.prevSeqnum := rfl
@[simp] theorem forgetFrame_prevValid : (s.forgetFrame).prevValid = s.prevValid := rfl
@[simp] theorem forgetFrame_dupCount : (s.forgetFrame).dupCount = s.dupCount := rfl
@[simp] theorem forgetFrame_timeout : (s.forgetFrame).timeout = s.timeout := rfl
@[simp] theorem forgetFrame_elapsed : (s.forgetFrame).elapsed = s.elapsed := rfl
@[simp] theorem forgetFrame_payloadLen : (s.forgetFrame).payloadLen = s.payloadLen := rfl
@[simp] theorem forgetFrame_segOff : (s.forgetFrame).segOff = s.segOff := rfl
@[simp] theorem forgetFrame_pendingFrame : (s.forgetFrame).pendingFrame = freeBytes s.freeCount (3 + s.cfg.mss) := rfl
@[simp] theorem forgetFrame_pendingLen : (s.forgetFrame).pendingLen = s.pendingLen := rfl
@[simp] theorem forgetFrame_result : (s.forgetFrame).result = s.result := rfl
@[simp] theorem forgetFrame_payload : (s.forgetFrame).payload = s.payload := rfl
@[simp] theorem forgetFrame_script : (s.forgetFrame).script = s.script := rfl
@[simp] theorem forgetFrame_history : (s.forgetFrame).history = s.history := rfl
@[simp] theorem forgetFrame_returned : (s.forgetFrame).returned = s.returned := rfl
@[simp] theorem forgetFrame_freeCount : (s.forgetFrame).freeCount = s.freeCount + (3 + s.cfg.mss) := rfl

@[simp] theorem clearSession_cfg (b : Byte) : (s.clearSession b).cfg = s.cfg := rfl
@[simp] theorem clearSession_state (b : Byte) : (s.clearSession b).state = s.state := rfl
@[simp] theorem clearSession_currentSeqnum (b : Byte) : (s.clearSession b).currentSeqnum = b := rfl
@[simp] theorem clearSession_prevSeqnum (b : Byte) : (s.clearSession b).prevSeqnum = 0x00 := rfl
@[simp] theorem clearSession_prevValid (b : Byte) : (s.clearSession b).prevValid = false := rfl
@[simp] theorem clearSession_dupCount (b : Byte) : (s.clearSession b).dupCount = 0 := rfl
@[simp] theorem clearSession_timeout (b : Byte) : (s.clearSession b).timeout = s.cfg.tInit % 2 ^ s.cfg.tw := rfl
@[simp] theorem clearSession_elapsed (b : Byte) : (s.clearSession b).elapsed = 0 := Nat.zero_mod _
@[simp] theorem clearSession_payloadLen (b : Byte) : (s.clearSession b).payloadLen = s.payloadLen := rfl
@[simp] theorem clearSession_segOff (b : Byte) : (s.clearSession b).segOff = 0 := Nat.zero_mod _
@[simp] theorem clearSession_pendingFrame (b : Byte) : (s.clearSession b).pendingFrame = s.pendingFrame := rfl
@[simp] theorem clearSession_pendingLen (b : Byte) : (s.clearSession b).pendingLen = 0 := Nat.zero_mod _
@[simp] theorem clearSession_result (b : Byte) : (s.clearSession b).result = s.result := rfl
@[simp] theorem clearSession_payload (b : Byte) : (s.clearSession b).payload = s.payload := rfl
@[simp] theorem clearSession_script (b : Byte) : (s.clearSession b).script = s.script := rfl
@[simp] theorem clearSession_history (b : Byte) : (s.clearSession b).history = s.history := rfl
@[simp] theorem clearSession_returned (b : Byte) : (s.clearSession b).returned = s.returned := rfl
@[simp] theorem clearSession_freeCount (b : Byte) : (s.clearSession b).freeCount = s.freeCount := rfl

@[simp] theorem tmClean_cfg : s.tmClean.cfg = s.cfg := by unfold tmClean; split <;> rfl
@[simp] theorem tmClean_state : s.tmClean.state = s.state := by unfold tmClean; split <;> rfl
@[simp] theorem tmClean_currentSeqnum : s.tmClean.currentSeqnum = s.currentSeqnum := by unfold tmClean; split <;> rfl
@[simp] theorem tmClean_prevSeqnum : s.tmClean.prevSeqnum = s.prevSeqnum := by unfold tmClean; split <;> rfl
@[simp] theorem tmClean_prevValid : s.tmClean.prevValid = s.prevValid := by unfold tmClean; split <;> rfl
@[simp] theorem tmClean_dupCount : s.tmClean.dupCount = s.dupCount := by unfold tmClean; split <;> rfl
@[simp] theorem tmClean_elapsed : s.tmClean.elapsed = s.elapsed := by unfold tmClean; split <;> rfl
@[simp] theorem tmClean_payloadLen : s.tmClean.payloadLen = s.payloadLen := by unfold tmClean; split <;> rfl
@[simp] theorem tmClean_segOff : s.tmClean.segOff = s.segOff := by unfold tmClean; split <;> rfl
@[simp] theorem tmClean_pendingFrame : s.tmClean.pendingFrame = s.pendingFrame := by unfold tmClean; split <;> rfl
@[simp] theorem tmClean_pendingLen : s.tmClean.pendingLen = s.pendingLen := by unfold tmClean; split <;> rfl
@[simp] theorem tmClean_result : s.tmClean.result = s.result := by unfold tmClean; split <;> rfl
@[simp] theorem tmClean_payload : s.tmClean.payload = s.payload := by unfold tmClean; split <;> rfl
@[simp] theorem tmClean_script : s.tmClean.script = s.script := by unfold tmClean; split <;> rfl
@[simp] theorem tmClean_history : s.tmClean.history = s.history := by unfold tmClean; split <;> rfl
@[simp] theorem tmClean_returned : s.tmClean.returned = s.returned := by unfold tmClean; split <;> rfl
@[simp] theorem tmClean_freeCount : s.tmClean.freeCount = s.freeCount := by unfold tmClean; split <;> rfl

@[simp] theorem tmFail_cfg : s.tmFail.cfg = s.cfg := by unfold tmFail; split <;> rfl
@[simp] theorem tmFail_state : s.tmFail.state = s.state := by unfold tmFail; split <;> rfl
@[simp] theorem tmFail_currentSeqnum : s.tmFail.currentSeqnum = s.currentSeqnum := by unfold tmFail; split <;> rfl
@[simp] theorem tmFail_prevSeqnum : s.tmFail.prevSeqnum = s.prevSeqnum := by unfold tmFail; split <;> rfl
@[simp] theorem tmFail_prevValid : s.tmFail.prevValid = s.prevValid := by unfold tmFail; split <;> rfl
@[simp] theorem tmFail_elapsed : s.tmFail.elapsed = s.elapsed := by unfold tmFail; split <;> rfl
@[simp] theorem tmFail_payloadLen : s.tmFail.payloadLen = s.payloadLen := by unfold tmFail; split <;> rfl
@[simp] theorem tmFail_segOff : s.tmFail.segOff = s.segOff := by unfold tmFail; split <;> rfl
@[simp] theorem tmFail_pendingFrame : s.tmFail.pendingFrame = s.pendingFrame := by unfold tmFail; split <;> rfl
@[simp] theorem tmFail_pendingLen : s.tmFail.pendingLen = s.pendingLen := by unfold tmFail; split <;> rfl
@[simp] theorem tmFail_result : s.tmFail.result = s.result := by unfold tmFail; split <;> rfl
@[simp] theorem tmFail_payload : s.tmFail.payload = s.payload := by unfold tmFail; split <;> rfl
@[simp] theorem tmFail_script : s.tmFail.script = s.script := by unfold tmFail; split <;> rfl
@[simp] theorem tmFail_history : s.tmFail.history = s.history := by unfold tmFail; split <;> rfl
@[simp] theorem tmFail_returned : s.tmFail.returned = s.returned := by unfold tmFail; split <;> rfl
@[simp] theorem tmFail_freeCount : s.tmFail.freeCount = s.freeCount := by unfold tmFail; split <;> rfl

end Sys2Proof.Machine.State
end

