-- ==== Sys2Proof/Laws/Memory.lean ====
section
/-! SUPPORT. The laws of the payload buffer: read after write, and every write keeps the canonical form. -/

namespace Sys2Proof.Machine.Memory

theorem read_eq_none_of_lt {m : Memory} {a : Nat} (h : ∀ x ∈ m, a < x.1) : m.read a = none := by
  induction m with
  | nil => rfl
  | cons x rest ih =>
    have hx := h x (by simp)
    rw [Memory.read, if_neg (by omega)]
    exact ih fun y hy => h y (by simp [hy])

theorem read_write_same (m : Memory) (a : Nat) (b : Byte) : (m.write a b).read a = some b := by
  induction m with
  | nil => simp [Memory.write, Memory.read]
  | cons x rest ih =>
    obtain ⟨k, v⟩ := x
    simp only [Memory.write]
    split
    · simp [Memory.read]
    · split
      · simp [Memory.read]
      · rw [Memory.read, if_neg ‹_›, ih]

theorem read_write_other (m : Memory) {a c : Nat} (b : Byte) (h : c ≠ a) : (m.write a b).read c = m.read c := by
  induction m with
  | nil => simp [Memory.write, Memory.read, h]
  | cons x rest ih =>
    obtain ⟨k, v⟩ := x
    simp only [Memory.write]
    split
    · rw [Memory.read, if_neg h]
    · split
      · subst ‹a = k›
        simp [Memory.read, h]
      · simp only [Memory.read, ih]

theorem mem_write {m : Memory} {a : Nat} {b : Byte} {x : Host.Cell} (h : x ∈ m.write a b) : x = (a, b) ∨ x ∈ m := by
  induction m with
  | nil => simpa [Memory.write] using h
  | cons y rest ih =>
    obtain ⟨k, v⟩ := y
    simp only [Memory.write] at h
    split at h
    · simpa using h
    · split at h
      · rcases List.mem_cons.mp h with h | h
        · exact .inl h
        · exact .inr (List.mem_cons_of_mem _ h)
      · rcases List.mem_cons.mp h with h | h
        · exact .inr (by simp [h])
        · exact (ih h).imp_right (List.mem_cons_of_mem _)

theorem wf_write {m : Memory} (a : Nat) (b : Byte) (h : m.wf) : (m.write a b).wf := by
  induction m with
  | nil => simp [Memory.write]
  | cons x rest ih =>
    obtain ⟨k, v⟩ := x
    have ⟨hk, hr⟩ := List.pairwise_cons.mp h
    simp only [Memory.write]
    split
    · exact List.pairwise_cons.mpr ⟨fun y hy => by
        rcases List.mem_cons.mp hy with rfl | hy
        · assumption
        · exact lt_trans ‹a < k› (hk y hy), h⟩
    · split
      · subst ‹a = k›
        exact List.pairwise_cons.mpr ⟨fun y hy => hk y hy, hr⟩
      · refine List.pairwise_cons.mpr ⟨fun y hy => ?_, ih hr⟩
        rcases mem_write hy with rfl | hy
        · exact lt_of_le_of_ne (not_lt.mp ‹¬a < k›) (Ne.symm ‹¬a = k›)
        · exact hk y hy

theorem wf_reset : State.reset.payload.wf := List.Pairwise.nil

end Sys2Proof.Machine.Memory
end

