-- ==== Sys2Proof/Laws/Ops.lean ====
section
/-! SUPPORT. What each shared operation does, said once; later proofs cite these and unfold nothing. -/

namespace Sys2Proof.Machine

@[simp] theorem length_chunk (s : State) (off len : Nat) : (s.chunk off len).length = chunkLen s.cfg off len := by
  simp [State.chunk]

@[simp] theorem length_frBuild (q a : Byte) (chunk : List Byte) : (frBuild q a chunk).length = 3 + chunk.length := by
  simp [frBuild]; omega

theorem length_segmentFrame (s : State) : s.segmentFrame.length = 3 + chunkLen s.cfg s.segOff s.payloadLen := by
  simp [State.segmentFrame]

theorem xorFold_append (a b : List Byte) : xorFold (a ++ b) = xorFold a ^^^ xorFold b := by
  induction a with
  | nil => simp [xorFold]
  | cons x a ih => simp [xorFold, ih, BitVec.xor_assoc]

theorem ckVerify_frBuild (q a : Byte) (chunk : List Byte) : ckVerify (frBuild q a chunk) = true := by
  simp only [ckVerify, frBuild, xorFold, ckCompute, beq_iff_eq]
  generalize a ^^^ (q ^^^ xorFold chunk) = x
  rw [BitVec.xor_comm x, BitVec.xor_assoc, BitVec.xor_self, BitVec.xor_zero]

theorem frParse_eq_some {c : Config} {frame : List Byte} {f : FrameFields} (h : frParse c frame = some f) :
    frame = f.checksum :: f.acknum :: f.seqnum :: f.payload ∧ f.payload.length ≤ c.mss := by
  unfold frParse at h
  split at h
  · split at h
    · cases h; exact ⟨rfl, ‹_›⟩
    · cases h
  · cases h

theorem tmFail_below {s : State} (h : s.dupCount.val < 2) :
    s.tmFail = { s with dupCount := ⟨s.dupCount.val + 1, by omega⟩ } := by
  unfold State.tmFail
  rw [dif_pos (by simp only [Config.failLimit]; omega)]

theorem tmFail_third {s : State} (h : s.dupCount.val = 2) :
    s.tmFail = { s.setTimeout (s.timeout * 2) with dupCount := 0 } := by
  unfold State.tmFail
  rw [dif_neg (by simp only [Config.failLimit]; omega)]

/-- The failure step goes one of two ways, and each says all it does. -/
theorem engFail_cases (s : State) :
    (s.retransmit.tmFail.timeout ≤ s.cfg.tMax ∧ s.engFail = s.retransmit.tmFail.waitAgain) ∨
      (s.cfg.tMax < s.retransmit.tmFail.timeout ∧ s.engFail = s.retransmit.tmFail.enterAborted) := by
  unfold State.engFail State.tmExhausted
  by_cases h : s.cfg.tMax < s.retransmit.tmFail.timeout
  · exact .inr ⟨h, by simp [h]⟩
  · exact .inl ⟨not_lt.mp h, by simp [h]⟩

/-- `TM_TICK` answers one of three ways. -/
theorem tmTick_cases (s : State) :
    (s.state ≠ .awaitingAck ∧ s.tmTick = (.waiting, s)) ∨
      (s.state = .awaitingAck ∧ s.elapsed + 1 < s.timeout ∧ s.tmTick = (.waiting, s.setElapsed (s.elapsed + 1))) ∨
      (s.state = .awaitingAck ∧ s.timeout ≤ s.elapsed + 1 ∧ s.tmTick = (.expired, s.raise .transmissionTimeout)) := by
  unfold State.tmTick State.waitExpires
  by_cases h : s.state = .awaitingAck
  · by_cases h' : s.timeout ≤ s.elapsed + 1
    · exact .inr (.inr ⟨h, h', by simp [h, h']⟩)
    · exact .inr (.inl ⟨h, by omega, by simp [h, h']⟩)
  · exact .inl ⟨h, by simp [h]⟩

theorem receive_awaiting (frame : List Byte) {s : State} (h : s.state = .awaitingAck) :
    receive frame s = .next (s.rxArm (s.classify frame)) := by
  simp [receive, State.rxReady, h]

theorem receive_elsewhere (frame : List Byte) {s : State} (h : s.state ≠ .awaitingAck) :
    receive frame s = .refused .rxNotReady := by
  simp [receive, State.rxReady, h]

theorem receiveAs_selected {c : FrameClass} {frame : List Byte} {s : State} (h : s.state = .awaitingAck)
    (hc : s.classify frame = c) : receiveAs c frame s = .next (s.rxArm c) := by
  simp [receiveAs, State.rxReady, h, hc]

theorem receiveAs_unselected {c : FrameClass} {frame : List Byte} {s : State} (h : s.state = .awaitingAck)
    (hc : s.classify frame ≠ c) : receiveAs c frame s = .refused .armNotSelected := by
  simp [receiveAs, State.rxReady, h, hc]

/-- A datagram that has a step runs the arm of its class. -/
theorem receive_next {frame : List Byte} {s t : State} (h : receive frame s = .next t) :
    s.state = .awaitingAck ∧ t = s.rxArm (s.classify frame) := by
  by_cases hs : s.state = .awaitingAck
  · rw [receive_awaiting frame hs] at h
    cases h; exact ⟨hs, rfl⟩
  · rw [receive_elsewhere frame hs] at h
    cases h

/-- An arm that has a step is the one the datagram selects, and it does what the datagram does. -/
theorem receiveAs_next {c : FrameClass} {frame : List Byte} {s t : State} (h : receiveAs c frame s = .next t) :
    s.classify frame = c ∧ receive frame s = .next t := by
  by_cases hs : s.state = .awaitingAck
  · by_cases hc : s.classify frame = c
    · rw [receiveAs_selected hs hc] at h
      exact ⟨hc, by rw [receive_awaiting frame hs, hc, h]⟩
    · rw [receiveAs_unselected hs hc] at h
      cases h
  · simp [receiveAs, State.rxReady, hs] at h

theorem startReady_iff (s : State) :
    s.startReady = true ↔ s.state = .noSession ∨ s.state = .completed ∨ s.state = .aborted := by
  cases h : s.state <;> simp [State.startReady, State.busy, h]

end Sys2Proof.Machine
end

