-- ==== Sys2Proof/Laws/Engine.lean ====
section
/-! SUPPORT. What the timer's updates, the failure step, the arms, `XMIT` and the classifier do, as whole new states; and
what each hands to the channel. -/

namespace Sys2Proof.Machine

theorem tInit_fits {c : Config} (h : c.Valid) : c.tInit < 2 ^ c.tw := by
  obtain ⟨_, _, _, _, _, _, _, _⟩ := h; omega

theorem tMin_fits {c : Config} (h : c.Valid) : c.tMin < 2 ^ c.tw := by
  obtain ⟨_, _, _, _, _, _, _, _⟩ := h; omega

theorem segmentFrame_fits {s : State} (h : s.cfg.Valid) : s.segmentFrame.length < 2 ^ s.cfg.lw := by
  rw [length_segmentFrame, chunkLen]
  obtain ⟨_, _, _, _, _⟩ := h
  omega

theorem foldBytes_eq_xorFold (l : List Byte) : foldBytes l = xorFold l := by
  have : ∀ (l : List Byte) (a : Byte), l.foldl (fun acc b => acc ^^^ b) a = a ^^^ xorFold l := by
    intro l
    induction l with
    | nil => intro a; simp [xorFold]
    | cons x l ih => intro a; simp [xorFold, ih, BitVec.xor_assoc]
  simp [foldBytes, this]

/-- `TM_CLEAN` is the maximum of R123. -/
theorem tmClean_eq {s : State} (hv : s.cfg.Valid) (hs : s.timeout < 2 ^ s.cfg.tw) :
    s.tmClean = { s with timeout := max s.cfg.tMin (s.timeout - s.cfg.tStep) } := by
  have := tMin_fits hv
  unfold State.tmClean State.setTimeout
  split
  · rw [Nat.mod_eq_of_lt (by omega), max_eq_right (by omega)]
  · rw [Nat.mod_eq_of_lt (by omega), max_eq_left (by omega)]

/-- `TM_FAIL` writes two registers. -/
theorem tmFail_frame (s : State) : s.tmFail = { s with dupCount := s.tmFail.dupCount, timeout := s.tmFail.timeout } := by
  unfold State.tmFail; split <;> rfl

/-- `ENG_FAIL` writes five registers and the outputs. -/
theorem engFail_frame (s : State) :
    s.engFail = { s with
      state := s.engFail.state, dupCount := s.engFail.dupCount, timeout := s.engFail.timeout,
      elapsed := s.engFail.elapsed, result := s.engFail.result, history := s.engFail.history } := by
  rcases engFail_cases s with ⟨_, e⟩ | ⟨_, e⟩ <;> rw [e, tmFail_frame s.retransmit] <;> rfl

/-- An arm that is not the good one writes what `ENG_FAIL` writes. -/
theorem rxArm_frame (s : State) {c : FrameClass} (h : c ≠ .good) :
    s.rxArm c = { s with
      state := (s.rxArm c).state, dupCount := (s.rxArm c).dupCount, timeout := (s.rxArm c).timeout,
      elapsed := (s.rxArm c).elapsed, result := (s.rxArm c).result, history := (s.rxArm c).history } := by
  cases c
  · exact engFail_frame (s.raiseClass .corrupt)
  · exact absurd rfl h
  · rfl
  · exact engFail_frame (s.raiseClass .ooo)

/-- The good arm, where the confirmed bytes are bytes of the payload. -/
theorem goodArm_eq {s : State} (hv : s.cfg.Valid) (ht : s.timeout < 2 ^ s.cfg.tw) (hp : s.payloadLen < 2 ^ s.cfg.lw)
    (hl : s.segOff + (s.pendingLen - 3) ≤ s.payloadLen) :
    s.goodArm = { s with
      timeout := max s.cfg.tMin (s.timeout - s.cfg.tStep), dupCount := 0, prevSeqnum := s.currentSeqnum,
      prevValid := true, currentSeqnum := BitVec.ofNat 8 (s.currentSeqnum.toNat + s.cfg.mss),
      segOff := s.segOff + (s.pendingLen - 3), state := .advancing } := by
  simp only [State.goodArm, tmClean_eq hv ht, State.setSegOff, State.chunkInFlight, frNextSeqnum]
  rw [Nat.mod_eq_of_lt (lt_of_le_of_lt hl hp)]

theorem sendSegment_eq {s : State} (hv : s.cfg.Valid) :
    s.sendSegment = { s with
      pendingFrame := s.segmentFrame ++ s.pendingFrame.drop s.segmentFrame.length,
      pendingLen := s.segmentFrame.length, elapsed := 0, state := .awaitingAck,
      history := s.history ++ [.tx s.segmentFrame, .setTimeout s.timeout] } := by
  simp [State.sendSegment, State.storeFrame, State.setPendingLen, State.waitAgain, State.tmArm, State.setElapsed,
    State.emit, Nat.mod_eq_of_lt (segmentFrame_fits hv)]

/-- A frame is intact when it parses and verifies. -/
theorem intact_iff (c : Config) (f : List Byte) :
    Intact c f ↔ ∃ x, frParse c f = some x ∧ ckVerify f = true ∧ f[1]? = some x.acknum := by
  rcases f with _ | ⟨a, _ | ⟨b, _ | ⟨d, p⟩⟩⟩
  · simp [Intact, frParse]
  · simp [Intact, frParse]
  · simp [Intact, frParse]
  · simp only [Intact, foldBytes_eq_xorFold, frParse, ckVerify, beq_iff_eq, List.length_cons]
    constructor
    · rintro ⟨h1, h2, h3⟩
      exact ⟨_, if_pos (by omega), h3, rfl⟩
    · rintro ⟨x, h1, h2, h3⟩
      split at h1
      · exact ⟨by omega, by omega, h2⟩
      · cases h1

/-- The classifier's chain of tests. -/
theorem classify_cases (s : State) (f : List Byte) :
    (¬ Intact s.cfg f ∧ s.classify f = .corrupt) ∨
      (Intact s.cfg f ∧ ∃ a, f[1]? = some a ∧
        s.classify f = if a = s.expectedAck then .good
          else if f.length = s.cfg.echoLen ∨ s.prevValid = true ∧ a = s.prevSeqnum then .stale else .ooo) := by
  by_cases h : Intact s.cfg f
  · obtain ⟨x, h1, h2, h3⟩ := (intact_iff _ _).mp h
    refine .inr ⟨h, x.acknum, h3, ?_⟩
    simp only [State.classify, h1, h2, State.staleTest, Bool.or_eq_true, Bool.and_eq_true, decide_eq_true_eq,
      beq_iff_eq, if_true]
  · refine .inl ⟨h, ?_⟩
    unfold State.classify
    cases h1 : frParse s.cfg f with
    | none => rfl
    | some x =>
      have h3 := (frParse_eq_some h1).1
      have : ckVerify f ≠ true := fun h2 => h ((intact_iff _ _).mpr ⟨x, h1, h2, by rw [h3]; rfl⟩)
      simp [this]

theorem txs_emit_tx (s : State) (f : List Byte) : (s.emit (.tx f)).txs = s.txs ++ [f] := by simp [State.txs]
theorem txs_raise (s : State) (e : ErrorClass) : (s.raise e).txs = s.txs := by simp [State.txs]
theorem txs_retransmit (s : State) : s.retransmit.txs = s.txs ++ [s.storedFrame] := by simp [State.txs]
theorem txs_waitAgain (s : State) : s.waitAgain.txs = s.txs := by simp [State.txs]
theorem txs_enterAborted (s : State) : s.enterAborted.txs = s.txs := by simp [State.txs]
theorem txs_tmFail (s : State) : s.tmFail.txs = s.txs := by simp [State.txs]

theorem txs_engFail (s : State) : s.engFail.txs = s.txs ++ [s.storedFrame] := by
  rcases engFail_cases s with ⟨_, e⟩ | ⟨_, e⟩ <;> rw [e]
  · rw [txs_waitAgain, txs_tmFail, txs_retransmit]
  · rw [txs_enterAborted, txs_tmFail, txs_retransmit]

theorem txs_rxArm (s : State) (c : FrameClass) :
    (s.rxArm c).txs = s.txs ++ if c = .good then [] else [s.storedFrame] := by
  cases c
  · simp [State.rxArm, txs_engFail, State.raiseClass, FrameClass.error, txs_raise, State.storedFrame]
  · simp [State.rxArm, State.goodArm, State.raiseClass, FrameClass.error, State.txs]
  · simp [State.rxArm, State.staleArm, State.raiseClass, FrameClass.error, State.txs, State.storedFrame]
  · simp [State.rxArm, txs_engFail, State.raiseClass, FrameClass.error, txs_raise, State.storedFrame]

end Sys2Proof.Machine
end

