-- ==== Sys2Proof/Laws/PerInstr.lean ====
section
/-! SUPPORT. Facts made per operation. `CodeByte`: an operation offered on the command port begins with its code and the
others stand on the wire (spec/30_encoding.md R78, R83, R85). -/

namespace Sys2Proof.Laws.CodeByte

/-- The encoding begins with the code where there is one, and only wire frames have none. -/
def Statement (i : Instr) : Prop :=
  ∀ c : Config, (i.port = .command ↔ i.code.isSome) ∧ (i.port = .command → (encode c i).head? = i.code)

theorem reset : Statement .reset := fun _ => ⟨by decide, fun _ => rfl⟩
theorem start (len : Nat) (isn : Byte) : Statement (.start len isn) := fun _ => ⟨by simp [Instr.port, Instr.code], fun _ => rfl⟩
theorem rx (frame : List Byte) : Statement (.rx frame) := fun _ => ⟨by simp [Instr.port, Instr.code], fun _ => rfl⟩
theorem tick : Statement .tick := fun _ => ⟨by decide, fun _ => rfl⟩
theorem xmit : Statement .xmit := fun _ => ⟨by decide, fun _ => rfl⟩
theorem next : Statement .next := fun _ => ⟨by decide, fun _ => rfl⟩
theorem ckCompute (bytes : List Byte) : Statement (.ckCompute bytes) := fun _ => ⟨by simp [Instr.port, Instr.code], fun _ => rfl⟩
theorem ckVerify (frame : List Byte) : Statement (.ckVerify frame) := fun _ => ⟨by simp [Instr.port, Instr.code], fun _ => rfl⟩
theorem frSplit (off len : Nat) : Statement (.frSplit off len) := fun _ => ⟨by simp [Instr.port, Instr.code], fun _ => rfl⟩
theorem frNextSeqnum (prev : Byte) (chunkLen : Nat) : Statement (.frNextSeqnum prev chunkLen) := fun _ => ⟨by simp [Instr.port, Instr.code], fun _ => rfl⟩
theorem frBuild (seqnum acknum : Byte) (chunk : List Byte) : Statement (.frBuild seqnum acknum chunk) := fun _ => ⟨by simp [Instr.port, Instr.code], fun _ => rfl⟩
theorem frParse (frame : List Byte) : Statement (.frParse frame) := fun _ => ⟨by simp [Instr.port, Instr.code], fun _ => rfl⟩
theorem tmInit : Statement .tmInit := fun _ => ⟨by decide, fun _ => rfl⟩
theorem tmClean : Statement .tmClean := fun _ => ⟨by decide, fun _ => rfl⟩
theorem tmFail : Statement .tmFail := fun _ => ⟨by decide, fun _ => rfl⟩
theorem tmExhausted : Statement .tmExhausted := fun _ => ⟨by decide, fun _ => rfl⟩
theorem tmArm : Statement .tmArm := fun _ => ⟨by decide, fun _ => rfl⟩
theorem tmTick : Statement .tmTick := fun _ => ⟨by decide, fun _ => rfl⟩
theorem engClassify (frame : List Byte) : Statement (.engClassify frame) := fun _ => ⟨by simp [Instr.port, Instr.code], fun _ => rfl⟩
theorem engFail : Statement .engFail := fun _ => ⟨by decide, fun _ => rfl⟩
theorem rxCorrupt (frame : List Byte) : Statement (.rxCorrupt frame) := fun _ => ⟨by simp [Instr.port, Instr.code], fun _ => rfl⟩
theorem rxGood (frame : List Byte) : Statement (.rxGood frame) := fun _ => ⟨by simp [Instr.port, Instr.code], fun _ => rfl⟩
theorem rxStale (frame : List Byte) : Statement (.rxStale frame) := fun _ => ⟨by simp [Instr.port, Instr.code], fun _ => rfl⟩
theorem rxOoo (frame : List Byte) : Statement (.rxOoo frame) := fun _ => ⟨by simp [Instr.port, Instr.code], fun _ => rfl⟩
theorem tickTimeout : Statement .tickTimeout := fun _ => ⟨by decide, fun _ => rfl⟩
theorem frameData (checksum acknum seqnum : Byte) (payload : List Byte) : Statement (.frameData checksum acknum seqnum payload) :=
  fun _ => ⟨by simp [Instr.port, Instr.code], fun h => by simp [Instr.port] at h⟩
theorem frameAck (checksum acknum seqnum : Byte) (payload : List Byte) : Statement (.frameAck checksum acknum seqnum payload) :=
  fun _ => ⟨by simp [Instr.port, Instr.code], fun h => by simp [Instr.port] at h⟩

end Sys2Proof.Laws.CodeByte
end

