-- ==== Sys2Proof/Laws/Step.lean ====
section
/-! SUPPORT. What one step can be. -/

namespace Sys2Proof.Machine

/-- The oldest item that has a step is a host's write or a well-formed operation. -/
theorem offered_next {s t : State} (h : offered s = .next t) :
    (∃ a b rest, s.script = .hostWrite a b :: rest ∧ a < 2 ^ s.cfg.lw ∧
      t = { s with payload := s.payload.write a b, script := rest }) ∨
    (∃ p bytes rest i, s.script = .word p bytes :: rest ∧ decode s.cfg p bytes = .ok i ∧ i.wf s.cfg = true ∧
      exec i { s with script := rest } = .next t) := by
  unfold offered at h
  split at h
  · cases h
  · cases h
  · split at h
    · cases h; exact .inl ⟨_, _, _, ‹_›, ‹_›, rfl⟩
    · cases h
  · split at h
    · cases h
    · split at h
      · exact .inr ⟨_, _, _, _, ‹_›, ‹_›, ‹_›, h⟩
      · cases h

/-- Only the schedule can change where an item is not accepted, and only by its head having missed its moment. -/
theorem afterUnaccepted_cases (s : State) (r : Refusal) :
    s.afterUnaccepted r = { s with script := .missed :: s.script.tail } ∨ s.afterUnaccepted r = s := by
  unfold State.afterUnaccepted; split
  · exact .inl rfl
  · exact .inr rfl

@[simp] theorem afterUnaccepted_startWhileBusy (s : State) :
    s.afterUnaccepted .startWhileBusy = { s with script := .missed :: s.script.tail } := rfl

@[simp] theorem afterUnaccepted_armNotSelected (s : State) :
    s.afterUnaccepted .armNotSelected = { s with script := .missed :: s.script.tail } := rfl

@[simp] theorem afterUnaccepted_lostPulse (s : State) : s.afterUnaccepted .lostPulse = s := rfl

@[simp] theorem afterUnaccepted_rxNotReady (s : State) : s.afterUnaccepted .rxNotReady = s := rfl

@[simp] theorem afterUnaccepted_nothingPending (s : State) : s.afterUnaccepted .nothingPending = s := rfl

/-- A step is the oldest item's or, where that has none, the block's own. -/
theorem step_next {s t : State} (h : step s = .next t) :
    s.cfg.Valid ∧ (offered s = .next t ∨
      ∃ r i, offered s = .refused r ∧ s.ownStep = some i ∧ exec i (s.afterUnaccepted r) = .next t) := by
  unfold step takeStep at h
  split at h
  · refine ⟨‹_›, ?_⟩
    split at h
    · exact .inr ⟨_, _, ‹_›, ‹_›, h⟩
    · exact .inl h
  · cases h

/-- The block's own step is no sub-operation. -/
theorem ownStep_kind {s : State} {i : Instr} (h : s.ownStep = some i) : i.kind = .step := by
  unfold State.ownStep at h
  split at h <;> cases h <;> rfl

end Sys2Proof.Machine
end

