-- ==== Sys2Proof/Tests/Slice0.lean ====
section
/-! SUPPORT. Small tests and the witnesses of the statements' hypotheses. Expected values are those of
spec/95_test_vectors.md (named V-… and P…) or of the encoding tables of spec/30_encoding.md. -/

namespace Sys2Proof.Tests.Slice0

open Sys2Proof Sys2Proof.Machine

/-! ### Small states -/

/-- `CONFIG MSS=4`. -/
def c4 : Config := { Config.defaults with mss := 4 }

/-- After `RESET`, `MSS=4`, payload `41 42 43 44 45 46`. -/
def fresh : State :=
  { State.reset with
    cfg := c4
    payload := [(0, 0x41), (1, 0x42), (2, 0x43), (3, 0x44), (4, 0x45), (5, 0x46)]
    pendingFrame := List.replicate 7 0x00 }

/-- P3 after `START L=6 ISN=FE`. -/
def idle : State := { fresh with state := .idle, currentSeqnum := 0xFE, payloadLen := 6 }

/-- P3 after `XMIT`. -/
def awaiting : State :=
  { idle with state := .awaitingAck, pendingFrame := [0x05, 0x00, 0xFE, 0x41, 0x42, 0x43, 0x44], pendingLen := 7 }

/-- P5 after `XMIT`, the context B of V-CL. -/
def firstSegment : State :=
  { awaiting with currentSeqnum := 0x10, pendingFrame := [0xEB, 0x00, 0x10, 0x41, 0x42, 0x43, 0x44] }

/-- P6 with its second segment in flight, the context A of V-CL. -/
def second : State :=
  { awaiting with
    currentSeqnum := 0x14, prevSeqnum := 0x10, prevValid := true, timeout := 95, segOff := 4
    pendingFrame := [0xE8, 0x00, 0x14, 0x45, 0x46, 0x43, 0x44], pendingLen := 5 }

/-- P3 after its good acknowledgment. -/
def advancing : State :=
  { awaiting with
    state := .advancing, currentSeqnum := 0x02, prevSeqnum := 0xFE, prevValid := true, timeout := 95, segOff := 4 }

/-- P3 after its last acknowledgment. -/
def lastConfirmed : State :=
  { advancing with currentSeqnum := 0x06, prevSeqnum := 0x02, timeout := 90, segOff := 6, pendingLen := 5 }

/-- P3 at its end. -/
def completed : State := { lastConfirmed with state := .completed, result := .ok }

/-- Two failures at `timeout = 400`: the next one aborts. -/
def lastChance : State := { awaiting with dupCount := 2, timeout := 400 }

/-- After that abort. -/
def aborted : State :=
  { awaiting with state := .aborted, timeout := 800, result := .fatalTimeoutCeilingExceeded }

/-- The context C of V-CL: `MSS=250`, the good and the stale test agree. -/
def overlap : State :=
  { second with
    cfg := Config.defaults, currentSeqnum := 0xFA, prevSeqnum := 0x00, payloadLen := 256, segOff := 250
    pendingFrame := [0x05, 0x00, 0xFA, 0x00, 0x00, 0x00, 0x00, 0x00, 0x00] ++ List.replicate 244 0x00, pendingLen := 9 }

/-- The next state, where there is one. -/
def after : Host.Outcome State Fault Refusal → Option State
  | .next s => some s
  | _ => none

/-- Why there is no next state. -/
def refusal : Host.Outcome State Fault Refusal → Option Refusal
  | .refused r => some r
  | _ => none

/-! ### Ill-formed operations are refused -/

theorem test_wf_start_length : Instr.wf c4 (.start 65536 0x00) = false := by decide
theorem test_wf_start_longest : Instr.wf c4 (.start 65535 0x00) = true := by decide
theorem test_wf_split_offset : Instr.wf c4 (.frSplit 65536 4) = false := by decide
theorem test_wf_split_length : Instr.wf c4 (.frSplit 0 65536) = false := by decide
theorem test_wf_next_seqnum_length : Instr.wf c4 (.frNextSeqnum 0x00 65536) = false := by decide
theorem test_wf_build_chunk : Instr.wf c4 (.frBuild 0x00 0x00 [1, 2, 3, 4, 5]) = false := by decide
theorem test_wf_data_empty : Instr.wf c4 (.frameData 0xFF 0x00 0x00 []) = false := by decide
theorem test_wf_data_too_long : Instr.wf c4 (.frameData 0xFE 0x00 0x00 [1, 2, 3, 4, 5]) = false := by decide
theorem test_wf_ack_too_long : Instr.wf c4 (.frameAck 0xFE 0x00 0x00 [1, 2, 3, 4, 5]) = false := by decide
theorem test_step_refuses_ill_formed :
    refusal (step { fresh with script := [.word .command [0x32, 0x10, 0x00, 1, 2, 3, 4, 5]] }) = some .illFormed := by
  decide +kernel

/-! ### Words written out: codes of R78 and R85, layouts of R70, operand bytes of log 2 -/

theorem test_decode_reset : decode c4 .command [0b00000000] = .ok .reset := by decide
theorem test_decode_start : decode c4 .command [0b00000001, 0x06, 0x01, 0xFE] = .ok (.start 262 0xFE) := by decide
theorem test_decode_rx : decode c4 .command [0b00000010, 0x03, 0x02, 0xFE] = .ok (.rx [0x03, 0x02, 0xFE]) := by decide
theorem test_decode_tick : decode c4 .command [0b00000011] = .ok .tick := by decide
theorem test_decode_xmit : decode c4 .command [0b00010000] = .ok .xmit := by decide
theorem test_decode_next : decode c4 .command [0b00010001] = .ok .next := by decide
theorem test_decode_ck_compute : decode c4 .command [0b00100000, 0x34, 0x2A] = .ok (.ckCompute [0x34, 0x2A]) := by decide
theorem test_decode_ck_verify : decode c4 .command [0b00100001, 0xFF] = .ok (.ckVerify [0xFF]) := by decide
theorem test_decode_fr_split : decode c4 .command [0b00110000, 0x04, 0x01, 0x06, 0x02] = .ok (.frSplit 260 518) := by decide
theorem test_decode_fr_next_seqnum : decode c4 .command [0b00110001, 0x2A, 0x0A, 0x01] = .ok (.frNextSeqnum 0x2A 266) := by decide
theorem test_decode_fr_build : decode c4 .command [0b00110010, 0x2A, 0x34, 0x41] = .ok (.frBuild 0x2A 0x34 [0x41]) := by decide
theorem test_decode_fr_parse : decode c4 .command [0b00110011] = .ok (.frParse []) := by decide
theorem test_decode_tm_init : decode c4 .command [0b01000000] = .ok .tmInit := by decide
theorem test_decode_tm_clean : decode c4 .command [0b01000001] = .ok .tmClean := by decide
theorem test_decode_tm_fail : decode c4 .command [0b01000010] = .ok .tmFail := by decide
theorem test_decode_tm_exhausted : decode c4 .command [0b01000011] = .ok .tmExhausted := by decide
theorem test_decode_tm_arm : decode c4 .command [0b01000100] = .ok .tmArm := by decide
theorem test_decode_tm_tick : decode c4 .command [0b01000101] = .ok .tmTick := by decide
theorem test_decode_eng_classify : decode c4 .command [0b01010000, 0xFF] = .ok (.engClassify [0xFF]) := by decide
theorem test_decode_eng_fail : decode c4 .command [0b01010001] = .ok .engFail := by decide
theorem test_decode_rx_corrupt : decode c4 .command [0b01100000, 0xFF] = .ok (.rxCorrupt [0xFF]) := by decide
theorem test_decode_rx_good : decode c4 .command [0b01100001, 0x03, 0x02, 0xFE] = .ok (.rxGood [0x03, 0x02, 0xFE]) := by decide
theorem test_decode_rx_stale : decode c4 .command [0b01100010, 0xEF, 0x10, 0x00] = .ok (.rxStale [0xEF, 0x10, 0x00]) := by decide
theorem test_decode_rx_ooo : decode c4 .command [0b01100011, 0x88, 0x77, 0x00] = .ok (.rxOoo [0x88, 0x77, 0x00]) := by decide
theorem test_decode_tick_timeout : decode c4 .command [0b01100100] = .ok .tickTimeout := by decide
theorem test_decode_frame_data :
    decode c4 .transmit [0x05, 0x00, 0xFE, 0x41, 0x42, 0x43, 0x44] = .ok (.frameData 0x05 0x00 0xFE [0x41, 0x42, 0x43, 0x44]) := by
  decide
theorem test_decode_frame_ack : decode c4 .receive [0xE1, 0x34, 0x2A] = .ok (.frameAck 0xE1 0x34 0x2A []) := by decide
theorem test_decode_long_datagram : decode c4 .receive [1, 2, 3, 4, 5, 6, 7, 8] = .ok (.rx [1, 2, 3, 4, 5, 6, 7, 8]) := by decide
theorem test_table_word_header : decodeTableWord 24 0xE1342A = some (.frameAck 0xE1 0x34 0x2A []) := by decide
theorem test_reserved_code : decode c4 .command [0x12] = .error (.reservedCode 0x12) := by decide

/-! ### One operation each -/

-- V-CK, V-VF
theorem test_ck_compute : (after (exec (.ckCompute [0x12, 0x34, 0x56, 0x78]) fresh)).map (·.returned) = some (some (.byte 0xF7)) := by decide
theorem test_ck_verify_undetected : (after (exec (.ckVerify [0xE1, 0x35, 0x2B]) fresh)).map (·.returned) = some (some (.bool true)) := by decide
theorem test_ck_verify_one_bit : (after (exec (.ckVerify [0xE1, 0x34, 0x2B]) fresh)).map (·.returned) = some (some (.bool false)) := by decide

-- V-SP, V-NS, V-FB, V-FP
theorem test_fr_split_short : (after (exec (.frSplit 4 6) idle)).map (·.returned) = some (some (.chunk 2 [0x45, 0x46])) := by decide
theorem test_fr_split_full : (after (exec (.frSplit 0 4) idle)).map (·.returned) = some (some (.chunk 4 [0x41, 0x42, 0x43, 0x44])) := by decide
theorem test_fr_next_seqnum_ignores_length : (after (exec (.frNextSeqnum 0x2A 10) State.reset)).map (·.returned) = some (some (.byte 0x24)) := by decide
theorem test_fr_next_seqnum_wraps : (after (exec (.frNextSeqnum 0xFE 4) fresh)).map (·.returned) = some (some (.byte 0x02)) := by decide
theorem test_fr_build : (after (exec (.frBuild 0x80 0x7F [1, 2, 3]) fresh)).map (·.returned) = some (some (.frame [0x00, 0x7F, 0x80, 1, 2, 3])) := by decide
theorem test_fr_parse_longest :
    (after (exec (.frParse [0x05, 0x00, 0xFE, 0x41, 0x42, 0x43, 0x44]) fresh)).map (·.returned) =
      some (some (.fields ⟨0x05, 0x00, 0xFE, [0x41, 0x42, 0x43, 0x44]⟩)) := by decide
theorem test_fr_parse_too_long :
    (after (exec (.frParse [0x05, 0x00, 0xFE, 0x41, 0x42, 0x43, 0x44, 0x00]) fresh)).map (·.returned) = some (some .malformed) := by decide

-- V-TC, V-TF, V-TE, V-TT, V-TA
theorem test_tm_init : (after (exec .tmInit { aborted with dupCount := 1, elapsed := 9 })).map (fun s => (s.timeout, s.dupCount, s.elapsed)) = some (100, 0, 0) := by decide
theorem test_tm_clean_step : (after (exec .tmClean { awaiting with timeout := 500 })).map (·.timeout) = some 495 := by decide
theorem test_tm_clean_floor : (after (exec .tmClean { awaiting with timeout := 24 })).map (·.timeout) = some 20 := by decide
theorem test_tm_fail_counts : (after (exec .tmFail { awaiting with dupCount := 1 })).map (fun s => (s.dupCount, s.timeout)) = some (2, 100) := by decide
theorem test_tm_fail_doubles : (after (exec .tmFail { awaiting with dupCount := 2, timeout := 251 })).map (fun s => (s.dupCount, s.timeout)) = some (0, 502) := by decide
theorem test_tm_exhausted_at_ceiling : (after (exec .tmExhausted { awaiting with timeout := 500 })).map (·.returned) = some (some (.bool false)) := by decide
theorem test_tm_exhausted_above : (after (exec .tmExhausted { awaiting with timeout := 501 })).map (·.returned) = some (some (.bool true)) := by decide
theorem test_tm_arm : (after (exec .tmArm { awaiting with elapsed := 37 })).map (fun s => (s.elapsed, s.history)) = some (0, [.setTimeout 100]) := by decide
theorem test_tm_tick_waiting : (after (exec .tmTick { second with elapsed := 93 })).map (fun s => (s.elapsed, s.returned)) = some (94, some (.tickResult .waiting)) := by decide
theorem test_tm_tick_expired : (after (exec .tmTick { second with elapsed := 94 })).map (fun s => (s.elapsed, s.returned)) = some (94, some (.tickResult .expired)) := by decide

-- V-CL
theorem test_classify_good_beats_echo : (after (exec (.engClassify [0xC9, 0x16, 0x20, 1, 2, 3]) second)).map (·.returned) = some (some (.frameClass .good)) := by decide
theorem test_classify_reset_number_is_not_stale : (after (exec (.engClassify [0xFF, 0x00, 0x00]) firstSegment)).map (·.returned) = some (some (.frameClass .ooo)) := by decide

-- P1, P3, P4, P5, P6, P7, P8
theorem test_reset :
    (after (exec .reset aborted)).map (fun s => ((s.state, s.result, s.timeout), (s.pendingLen, s.currentSeqnum, s.txs))) =
      some ((.noSession, .none, 100), (0, 0x00, [])) := by decide
theorem test_start_empty : (after (exec (.start 0 0x7C) fresh)).map (fun s => (s.state, s.result, s.currentSeqnum, s.txs)) = some (.completed, .ok, 0x7C, []) := by decide
theorem test_start_after_abort : (after (exec (.start 1 0x80) aborted)).map (fun s => (s.state, s.result, s.timeout, s.currentSeqnum)) = some (.idle, .none, 100, 0x80) := by decide
theorem test_xmit :
    (after (exec .xmit idle)).map (fun s => (s.state, s.txs, s.pendingLen)) =
      some (.awaitingAck, [[0x05, 0x00, 0xFE, 0x41, 0x42, 0x43, 0x44]], 7) := by decide
theorem test_xmit_short_segment :
    (after (exec .xmit { advancing with state := .idle })).map (fun s => (s.txs, s.pendingLen)) = some ([[0xFE, 0x00, 0x02, 0x45, 0x46]], 5) := by decide
theorem test_next_more : (after (exec .next advancing)).map (fun s => (s.state, s.result)) = some (.idle, .none) := by decide
theorem test_next_done : (after (exec .next lastConfirmed)).map (fun s => (s.state, s.result)) = some (.completed, .ok) := by decide
theorem test_rx_overlap_is_good : (after (exec (.rx [0xFF, 0x00, 0x00]) overlap)).map (fun s => (s.state, s.currentSeqnum, s.segOff)) = some (.advancing, 0xF4, 256) := by decide +kernel
theorem test_rx_echo_keeps_count :
    (after (exec (.rx [0x55, 0x99, 0x33, 1, 2, 3]) { second with dupCount := 1 })).map (fun s => (s.state, s.dupCount, s.txs)) =
      some (.awaitingAck, 1, [[0xE8, 0x00, 0x14, 0x45, 0x46]]) := by decide
theorem test_rx_corrupt :
    (after (exec (.rxCorrupt [0x13, 0x02, 0xFE]) awaiting)).map (fun s => (s.state, s.dupCount, s.txs)) =
      some (.awaitingAck, 1, [[0x05, 0x00, 0xFE, 0x41, 0x42, 0x43, 0x44]]) := by decide
theorem test_rx_good :
    (after (exec (.rxGood [0x03, 0x02, 0xFE]) awaiting)).map (fun s => (s.state, s.currentSeqnum, s.timeout, s.segOff, s.txs)) =
      some (.advancing, 0x02, 95, 4, []) := by decide
theorem test_rx_good_short_chunk :
    (after (exec (.rxGood [0xE9, 0x16, 0x00]) second)).map (fun s => (s.currentSeqnum, s.prevSeqnum, s.prevValid, s.segOff)) =
      some (0x18, 0x14, true, 6) := by decide
theorem test_rx_stale :
    (after (exec (.rxStale [0xEF, 0x10, 0x00]) { second with elapsed := 12 })).map (fun s => (s.elapsed, s.dupCount, s.timeout, s.txs)) =
      some (0, 0, 95, [[0xE8, 0x00, 0x14, 0x45, 0x46]]) := by decide
theorem test_rx_ooo :
    (after (exec (.rxOoo [0x98, 0x77, 0x10]) firstSegment)).map (fun s => (s.state, s.dupCount, s.txs)) =
      some (.awaitingAck, 1, [[0xEB, 0x00, 0x10, 0x41, 0x42, 0x43, 0x44]]) := by decide
theorem test_eng_fail_aborts :
    (after (exec .engFail { lastChance with elapsed := 399 })).map (fun s => (s.state, s.result, s.timeout, s.dupCount, s.elapsed)) =
      some (.aborted, .fatalTimeoutCeilingExceeded, 800, 0, 399) := by decide
theorem test_tick_inert : after (exec .tick aborted) = some aborted := by decide +kernel
theorem test_tick_timeout :
    (after (exec .tickTimeout { second with elapsed := 94 })).map (fun s => (s.dupCount, s.elapsed, s.txs)) =
      some (1, 0, [[0xE8, 0x00, 0x14, 0x45, 0x46]]) := by decide
theorem test_frame_data :
    (after (exec (.frameData 0x05 0x00 0xFE [0x41, 0x42, 0x43, 0x44]) idle)).map (fun s => (s.state, s.txs)) =
      some (.awaitingAck, [[0x05, 0x00, 0xFE, 0x41, 0x42, 0x43, 0x44]]) := by decide
theorem test_frame_ack : (after (exec (.frameAck 0x03 0x02 0xFE []) awaiting)).map (·.state) = some .advancing := by decide

-- P10 and R178
theorem test_refuse_rx_after_reset : refusal (exec (.rx [0xFF, 0x00, 0x00]) State.reset) = some .rxNotReady := by decide +kernel
theorem test_refuse_start_while_busy : refusal (exec (.start 1 0x00) awaiting) = some .startWhileBusy := by decide +kernel
theorem test_own_step_goes_first :
    (after (step { idle with script := [.word .receive [0x03, 0x02, 0xFE]] })).map (fun s => (s.state, s.script)) =
      some (.awaitingAck, [.word .receive [0x03, 0x02, 0xFE]]) := by decide +kernel
theorem test_lost_start_is_not_latched :
    (after (step { lastConfirmed with script := [.word .command [0x01, 0x01, 0x00, 0x80]] })).map (fun s => (s.state, s.script)) =
      some (.completed, [.missed]) := by decide +kernel
theorem test_lost_start_is_not_absorbed : refusal (step { completed with script := [.missed] }) = some .lostPulse := by decide +kernel
theorem test_fetch_word_runs : (after (step (State.reset.withFetchWord 8 0x20))).map (·.returned) = some (some (.byte 0xFF)) := by decide +kernel
theorem test_memory_write_keeps_order : Memory.write [(1, 0x0A), (5, 0x0B)] 3 0xFF = [(1, 0x0A), (3, 0xFF), (5, 0x0B)] := by decide

/-! ### Witnesses: concrete inputs that meet the hypotheses of each statement, clause by clause, at boundary values -/

theorem witness_DecodeOfEncodeIsTheOperation :
    Instr.wf c4 (.start 65535 0xFF) = true ∧ Instr.wf c4 (.frSplit 65535 0) = true ∧
      Instr.wf c4 (.frBuild 0x00 0x00 [1, 2, 3, 4]) = true ∧ Instr.wf c4 (.frameData 0xFE 0x00 0x00 [1]) = true ∧
      Instr.wf c4 (.frameAck 0xFF 0x00 0x00 []) = true := by decide

theorem witness_ReservedCodesAreRejected : (∀ i : Instr, i.code ≠ some 0x04) ∧ ∀ i : Instr, i.code ≠ some 0x65 :=
  ⟨fun i => by cases i <;> simp [Instr.code], fun i => by cases i <;> simp [Instr.code]⟩

theorem witness_StepRunsTheOldestItem :
    idle.cfg.Valid ∧ decode idle.cfg .command [0x11] = .ok .next ∧ Instr.next.wf idle.cfg = true ∧
      (∃ t, exec .tick { idle with script := [] } = .next t) ∧
      awaiting.cfg.Valid ∧ awaiting.state ≠ .idle ∧ awaiting.state ≠ .advancing :=
  ⟨by decide, by decide, by decide, ⟨_, rfl⟩, by decide, by decide, by decide⟩

theorem witness_BlockTakesItsOwnStep :
    (idle.cfg.Valid ∧ idle.state = .idle ∧ idle.script = []) ∧
      (∃ r, offered { idle with script := [.word .receive []] } = .refused r) ∧
      (advancing.cfg.Valid ∧ advancing.state = .advancing ∧ advancing.script = []) ∧
      offered { advancing with script := [.word .command [0x01, 0x01, 0x00, 0x80]] } = .refused .startWhileBusy ∧
      (completed.cfg.Valid ∧ completed.state ≠ .idle ∧ completed.state ≠ .advancing ∧ completed.script = []) :=
  ⟨by decide, ⟨_, rfl⟩, by decide, rfl, by decide⟩

theorem witness_PulsesAreNotLatched :
    advancing.cfg.Valid ∧ decode c4 .command [0x01, 0x01, 0x00, 0x80] = .ok (.start 1 0x80) ∧
      Instr.wf c4 (.start 1 0x80) = true ∧ decode c4 .command [0x64] = .ok .tickTimeout ∧
      decode c4 .command [0x03] = .ok .tick ∧ decode c4 .command [0x02] = .ok (.rx []) ∧
      decode c4 .receive [0xE1, 0x34, 0x2A] = .ok (.frameAck 0xE1 0x34 0x2A []) ∧ idle.state = .idle ∧
      advancing.state = .advancing ∧ awaiting.state = .awaitingAck ∧
      ({ completed with script := [.missed] } : State).script = [.missed] ∧ completed.cfg.Valid ∧ completed.state ≠ .idle ∧
      completed.state ≠ .advancing := by decide

/-- One build for each disjunct, next to the last admitted value. -/
theorem witness_BadBuildHasNoStep :
    ({ c4 with mss := 0 } : Config).mss = 0 ∧ ({ c4 with tMin := 0 } : Config).tMin = 0 ∧
      ({ c4 with tStep := 0 } : Config).tStep = 0 ∧ ({ c4 with tInit := 19 } : Config).tInit < c4.tMin ∧
      c4.tMax < ({ c4 with tInit := 501 } : Config).tInit ∧ 2 ^ c4.tw ≤ 2 * ({ c4 with tMax := 32768 } : Config).tMax ∧
      2 ^ c4.lw ≤ 3 + ({ c4 with mss := 65533 } : Config).mss ∧ ({ c4 with lw := 1 } : Config).lw < 2 ∧
      ({ c4 with echoLen := 2 } : Config).echoLen < 3 := by decide +kernel

theorem witness_HostWritePutsOneByte :
    fresh.cfg.Valid ∧ ({ fresh with script := [.hostWrite 65535 0xFF] } : State).script = [.hostWrite 65535 0xFF] ∧
      65535 < 2 ^ fresh.cfg.lw ∧ fresh.payload.wf := by decide +kernel

theorem witness_StepKeepsInvariants :
    (∃ t, idle.Inv ∧ idle.ScriptIsTrace ∧ step idle = .next t) ∧
      (∃ t, State.Inv { second with script := [.word .receive [0xE9, 0x16, 0x00]] } ∧
        State.ScriptIsTrace { second with script := [.word .receive [0xE9, 0x16, 0x00]] } ∧
        step { second with script := [.word .receive [0xE9, 0x16, 0x00]] } = .next t) :=
  ⟨⟨_, by decide +kernel, by decide, rfl⟩, ⟨_, by decide +kernel, by decide, rfl⟩⟩

theorem witness_StepKeepsSequenceNumbers :
    ∃ t, State.Inv { second with script := [.word .command [0x03]] } ∧
      State.ScriptIsTrace { second with script := [.word .command [0x03]] } ∧ second.NumbersFollow ∧
      step { second with script := [.word .command [0x03]] } = .next t :=
  ⟨_, by decide +kernel, by decide, by decide, rfl⟩

theorem witness_ResetPutsTheTable : aborted.cfg.Valid ∧ ∃ t, exec .reset aborted = .next t := ⟨by decide, _, rfl⟩

theorem witness_StatusPortsAgree :
    fresh.Inv ∧ idle.Inv ∧ awaiting.Inv ∧ second.Inv ∧ advancing.Inv ∧ lastConfirmed.Inv ∧ completed.Inv ∧ aborted.Inv :=
  ⟨by decide +kernel, by decide +kernel, by decide +kernel, by decide +kernel, by decide +kernel, by decide +kernel,
    by decide +kernel, by decide +kernel⟩

theorem witness_ChecksumDetectsCorruption :
    ([0xE1, 0x34, 0x2A] : List Byte).length = ([0x00, 0x01, 0x01] : List Byte).length ∧
      ckVerify [0xE1, 0x34, 0x2A] = true ∧ (0x80 : Byte) ≠ 0x00 ∧ ckVerify ([0xE1] ++ 0x34 :: [0x2A]) = true := by decide

/-- The clauses meet at `off = len`. -/
theorem witness_SplitAnswersTheChunk : 5 < 6 ∧ 1 ≤ idle.cfg.mss ∧ 6 ≤ 6 := by decide

theorem witness_ChunksReassembleThePayload :
    1 ≤ idle.cfg.mss ∧ 0 + 1 < (6 + idle.cfg.mss - 1) / idle.cfg.mss ∧ 1 + 1 = (6 + idle.cfg.mss - 1) / idle.cfg.mss := by
  decide

/-- The clauses meet at 2 and 3 bytes and at `3 + MSS` and one more. -/
theorem witness_ParseReadsTheFields :
    (([0xE1, 0x34] : List Byte).length < 3) ∧ (3 + fresh.cfg.mss < ([1, 2, 3, 4, 5, 6, 7, 8] : List Byte).length) ∧
      (3 ≤ ([1, 2, 3] : List Byte).length ∧ ([1, 2, 3] : List Byte).length ≤ 3 + fresh.cfg.mss) ∧
      ([1, 2, 3, 4, 5, 6, 7] : List Byte).length ≤ 3 + fresh.cfg.mss := by decide

theorem witness_BuildAndParseAreInverse :
    ([1, 2, 3, 4] : List Byte).length ≤ c4.mss ∧ frParse c4 [0x13, 0x02, 0xFE] = some ⟨0x13, 0x02, 0xFE, []⟩ := by decide

theorem witness_TimerInitAndArm : aborted.cfg.Valid := by decide

theorem witness_CleanDeliveryShrinksTimeout : awaiting.cfg.Valid ∧ awaiting.Sized := by decide +kernel

theorem witness_CleanDeliveriesStopAtTheFloor :
    State.Sized { awaiting with timeout := 20 } ∧ awaiting.cfg.Valid ∧ awaiting.cfg.tMin ≤ 20 := by decide +kernel

theorem witness_FailureCountsAndDoubles :
    2 * awaiting.timeout < 2 ^ awaiting.cfg.tw ∧ awaiting.dupCount.val + 1 = (1 : Fin 3).val ∧
      2 * lastChance.timeout < 2 ^ lastChance.cfg.tw ∧ lastChance.dupCount.val + 1 = 3 := by decide +kernel

theorem witness_ThirdFailureDoubles :
    2 * awaiting.timeout < 2 ^ awaiting.cfg.tw ∧ awaiting.dupCount.val + 2 = (2 : Fin 3).val ∧
      awaiting.dupCount.val + 3 = 3 ∧ lastChance.dupCount.val + 1 = 3 := by decide +kernel

/-- The clauses meet at the ceiling. -/
theorem witness_ExhaustedIsAboveTheCeiling :
    c4.tMax < ({ aborted with timeout := 501 } : State).timeout ∧ ({ awaiting with timeout := 500 } : State).timeout ≤ c4.tMax := by
  decide

/-- The clauses meet at `elapsed + 1 = timeout`. -/
theorem witness_TimerTickCountsTheWait :
    (aborted.Sized ∧ aborted.state ≠ .awaitingAck) ∧
      (State.Sized { second with elapsed := 93 } ∧ second.state = .awaitingAck ∧ 93 + 1 < second.timeout) ∧
      (State.Sized { second with elapsed := 94 } ∧ second.timeout ≤ 94 + 1) := by decide +kernel

theorem witness_StartBuildsASession :
    65535 < 2 ^ fresh.cfg.lw ∧ fresh.cfg.Valid ∧ fresh.state = .noSession ∧ completed.state = .completed ∧
      aborted.state = .aborted := by decide +kernel

theorem witness_EventsOutsideTheirStatesHaveNoStep :
    idle.state = .idle ∧ awaiting.state = .awaitingAck ∧ advancing.state = .advancing ∧ idle.state ≠ .awaitingAck ∧
      awaiting.state ≠ .idle ∧ awaiting.state ≠ .advancing := by decide

theorem witness_StartForgetsThePast :
    fresh.cfg = aborted.cfg ∧ fresh.startReady = true ∧ aborted.startReady = true := by decide

/-- The last byte of the payload is the last that is framed. -/
theorem witness_XmitSendsTheSegment :
    (idle.cfg.Valid ∧ idle.Sized ∧ idle.state = .idle ∧ idle.segOff < idle.payloadLen ∧ idle.script = []) ∧
      (State.Sized { idle with segOff := 5 } ∧ 5 < idle.payloadLen) ∧
      ∃ r, offered { idle with script := [.word .receive []] } = .refused r := ⟨by decide +kernel, by decide +kernel, _, rfl⟩

theorem witness_PayReadIsTheHostsByte : 5 < idle.payloadLen ∧ 0 ≠ 5 := by decide

theorem witness_ClassifyFollowsTheOrder :
    ¬ Intact c4 [0xFF] ∧ Intact second.cfg [0xE9, 0x16, 0x00] ∧ second.expectedAck = 0x16 ∧
      Intact second.cfg [0xEF, 0x10, 0x00] ∧ Intact second.cfg [0x88, 0x77, 0x00] := by decide

/-- The context C of V-CL. -/
theorem witness_GoodBeatsStale :
    overlap.NumbersFollow ∧ overlap.prevValid = true ∧ Intact overlap.cfg [0xFF, 0x00, 0x00] ∧
      ([0xFF, 0x00, 0x00] : List Byte)[1]? = some overlap.prevSeqnum ∧
      (overlap.cfg.mss + (overlap.pendingLen - 3)) % 256 = 0 := by decide +kernel

theorem witness_RxTakesExactlyOneArm :
    idle.state ≠ .awaitingAck ∧ second.state = .awaitingAck ∧ second.classify [] = .corrupt ∧
      second.classify [0xE9, 0x16, 0x00] = .good ∧ second.classify [0xEF, 0x10, 0x00] = .stale ∧
      second.classify [0x88, 0x77, 0x00] = .ooo := by decide

/-- The clauses meet at `v = T_MAX`. -/
theorem witness_FailureStep :
    (2 * awaiting.timeout < 2 ^ awaiting.cfg.tw ∧ awaiting.dupCount.val + 1 = (1 : Fin 3).val ∧ awaiting.timeout ≤ awaiting.cfg.tMax) ∧
      (2 * 250 < 2 ^ lastChance.cfg.tw ∧ lastChance.dupCount.val + 1 = 3 ∧ 2 * 250 ≤ lastChance.cfg.tMax) ∧
      (2 * 251 < 2 ^ lastChance.cfg.tw ∧ lastChance.cfg.tMax < 2 * 251) := by decide +kernel

theorem witness_BadFramesRunTheFailureStep :
    firstSegment.state = .awaitingAck ∧ firstSegment.classify [0x13, 0x02, 0xFE] = .corrupt ∧
      firstSegment.classify [0xFF] = .corrupt ∧ firstSegment.classify [0x98, 0x77, 0x10] = .ooo ∧
      firstSegment.prevValid = false ∧ Intact firstSegment.cfg [0xFF, 0x00, 0x00] ∧
      firstSegment.classify [0xFF, 0x00, 0x00] ≠ .good ∧ ([0xFF, 0x00, 0x00] : List Byte).length ≠ firstSegment.cfg.echoLen := by
  decide

/-- The offset ends exactly at the payload's end. -/
theorem witness_GoodFrameAdvances :
    second.cfg.Valid ∧ second.Sized ∧ second.state = .awaitingAck ∧ second.classify [0xE9, 0x16, 0x00] = .good ∧
      second.segOff + (second.pendingLen - 3) ≤ second.payloadLen := by decide +kernel

theorem witness_StaleFrameRetransmits : second.state = .awaitingAck ∧ second.classify [0xEF, 0x10, 0x00] = .stale := by decide

theorem witness_TickCountsOrFails :
    (completed.Sized ∧ completed.state ≠ .awaitingAck) ∧
      (State.Sized { second with elapsed := 93 } ∧ second.state = .awaitingAck ∧ 93 + 1 < second.timeout) ∧
      (State.Sized { second with elapsed := 94 } ∧ second.timeout ≤ 94 + 1) := by decide +kernel

theorem witness_NextDecidesByBytesLeft :
    advancing.state = .advancing ∧ advancing.segOff < advancing.payloadLen ∧ lastConfirmed.state = .advancing ∧
      lastConfirmed.payloadLen ≤ lastConfirmed.segOff ∧ advancing.cfg.Valid ∧ advancing.script = [] ∧
      offered { advancing with script := [.word .receive []] } = .refused .rxNotReady :=
  ⟨by decide, by decide, by decide, by decide, by decide, by decide, rfl⟩

theorem witness_WireFramesAreXmitAndRx :
    idle.cfg.Valid ∧ idle.state = .idle ∧ idle.segOff < idle.payloadLen ∧ 0x05 :: 0x00 :: 0xFE :: [0x41] ≠ idle.segmentFrame ∧
      awaiting.state = .awaitingAck := by decide

theorem witness_EachTransitionTransmitsAtMostOnce :
    (∃ t, exec .xmit idle = .next t) ∧ (∃ t, exec .next advancing = .next t) ∧ ∃ t, step idle = .next t :=
  ⟨⟨_, rfl⟩, ⟨_, rfl⟩, ⟨_, rfl⟩⟩

theorem witness_EventsFollowTheGraph :
    ∃ t, Instr.kind (.start 65535 0x00) ≠ .sub ∧ Instr.wf fresh.cfg (.start 65535 0x00) = true ∧
      exec (.start 65535 0x00) fresh = .next t := ⟨_, by decide, by decide, rfl⟩

theorem witness_RegistersAreWrittenByTheirWriters :
    (∃ t, exec (.rxGood [0xE9, 0x16, 0x00]) second = .next t) ∧ ∃ t, exec .tmFail lastChance = .next t := ⟨⟨_, rfl⟩, ⟨_, rfl⟩⟩

theorem witness_AbortComesOnTheThirdFailure :
    lastChance.Inv ∧ Instr.kind (.rx []) ≠ .sub ∧
      exec (.rx []) lastChance = .next { lastChance with
        state := .aborted, result := .fatalTimeoutCeilingExceeded, timeout := 800, dupCount := 0
        history := lastChance.history ++
          [.raised .corruptedFrame, .tx lastChance.storedFrame, .raised .fatalTimeoutCeilingExceeded] } ∧
      Output.raised .fatalTimeoutCeilingExceeded ∈
        [.raised .corruptedFrame, .tx lastChance.storedFrame, .raised .fatalTimeoutCeilingExceeded] :=
  ⟨by decide +kernel, by decide, rfl, by decide⟩

theorem witness_TerminalStatesAreLeftByStartOrReset :
    completed.Inv ∧ completed.state = .completed ∧ aborted.Inv ∧ aborted.state = .aborted ∧
      ∃ t, Instr.tick.kind ≠ .sub ∧ exec .tick aborted = .next t :=
  ⟨by decide +kernel, rfl, by decide +kernel, rfl, _, by decide, rfl⟩

theorem witness_RetransmissionsAreVerbatim :
    ∃ u t, idle.cfg.Valid ∧ idle.Sized ∧ exec .xmit idle = .next u ∧
      (∀ i ∈ [Instr.tick, .rx []], i = .tick ∨ ∃ frame, i = .rx frame) ∧ execAll [.tick, .rx []] u = .next t := by
  refine ⟨_, _, by decide, by decide +kernel, rfl, fun i h => ?_, rfl⟩
  rcases List.mem_cons.mp h with h | h
  · exact .inl h
  · exact .inr ⟨[], by simpa using h⟩

/-- `d = 3` from the starting timeout; nine frames reach the abort, eight do not. -/
theorem witness_CorruptStreamAbortsExactly :
    awaiting.Inv ∧ awaiting.state = .awaitingAck ∧ awaiting.cfg.tMax < awaiting.timeout * 2 ^ 3 ∧
      (∀ e, e < 3 → awaiting.timeout * 2 ^ e ≤ awaiting.cfg.tMax) ∧
      (∀ f ∈ List.replicate 9 ([0x00, 0x00, 0x00] : List Byte), ¬ Intact awaiting.cfg f) ∧
      (List.replicate 8 ([0x00, 0x00, 0x00] : List Byte)).length + awaiting.dupCount.val < 3 * 3 ∧
      (List.replicate 9 ([0x00, 0x00, 0x00] : List Byte)).length + awaiting.dupCount.val = 3 * 3 :=
  ⟨by decide +kernel, by decide, by decide, by decide, by decide +kernel, by decide, by decide⟩

theorem witness_CleanSessionDeliversThePayload : idle.Inv ∧ idle.state = .idle := by decide +kernel

end Sys2Proof.Tests.Slice0
end

section
/-! The Segment Framer, spec/42_segment_framer.md: what its operations answer. -/

namespace Sys2Proof.Machine

theorem exec_frNextSeqnum (prev : Byte) (chunkLen : Nat) (s : State) :
    exec (.frNextSeqnum prev chunkLen) s = .next (s.answer (.byte (frNextSeqnum s.cfg prev chunkLen))) := rfl

theorem exec_frBuild (seqnum acknum : Byte) (chunk : List Byte) (s : State) :
    exec (.frBuild seqnum acknum chunk) s = .next (s.answer (.frame (frBuild seqnum acknum chunk))) := rfl

theorem toNat_frNextSeqnum (c : Config) (prev : Byte) (chunkLen : Nat) :
    (frNextSeqnum c prev chunkLen).toNat = (prev.toNat + c.mss) % 256 :=
  BitVec.toNat_ofNat (prev.toNat + c.mss) 8

theorem ckCompute_eq_foldBytes (bytes : List Byte) : ckCompute bytes = foldBytes bytes ^^^ 0xFF := by
  rw [ckCompute, foldBytes_eq_xorFold]

theorem frBuild_eq_foldBytes (seqnum acknum : Byte) (chunk : List Byte) :
    frBuild seqnum acknum chunk =
      (foldBytes (acknum :: seqnum :: chunk) ^^^ 0xFF) :: acknum :: seqnum :: chunk := by
  rw [frBuild, ckCompute_eq_foldBytes]

/-- Settles O19: the answer is the sum cut to a byte, R102 and R13. -/
theorem nextSeqnumAdvancesByMss : Obligations.NextSeqnumAdvancesByMss := by
  intro s prev chunkLen
  exact ⟨frNextSeqnum s.cfg prev chunkLen, exec_frNextSeqnum prev chunkLen s,
    toNat_frNextSeqnum s.cfg prev chunkLen⟩

/-- Settles O21: the model's recursive fold in the checksum is the left fold of the statement, R104 and R90. -/
theorem buildSerializesTheFrame : Obligations.BuildSerializesTheFrame := by
  intro s seqnum acknum chunk
  rw [exec_frBuild, frBuild_eq_foldBytes, State.answer]

end Sys2Proof.Machine
end

section
/-! The Retransmission Timer, spec/43_retransmission_timer.md: what its operations write and answer. -/

namespace Sys2Proof.Machine

theorem exec_tmClean (s : State) : exec .tmClean s = .next s.tmClean := rfl

theorem exec_tmFail (s : State) : exec .tmFail s = .next s.tmFail := rfl

theorem exec_tmExhausted (s : State) :
    exec .tmExhausted s = .next (s.answer (.bool s.tmExhausted)) := rfl

theorem tmExhausted_eq_true_iff (s : State) : s.tmExhausted = true ↔ s.cfg.tMax < s.timeout :=
  decide_eq_true_iff

theorem tmExhausted_eq_false_iff (s : State) : s.tmExhausted = false ↔ s.timeout ≤ s.cfg.tMax :=
  decide_eq_false_iff_not.trans not_lt

/-- The width cuts nothing from a value that fits it. -/
theorem setTimeout_of_fits {s : State} {v : Nat} (h : v < 2 ^ s.cfg.tw) :
    s.setTimeout v = { s with timeout := v } := by
  rw [State.setTimeout, Nat.mod_eq_of_lt h]

theorem tmFail_counts {s : State} {d : Fin 3} (h : s.dupCount.val + 1 = d.val) :
    s.tmFail = { s with dupCount := d } := by
  rw [tmFail_below (by omega)]
  congr 1
  exact Fin.ext h

theorem tmFail_doubles {s : State} (hfit : 2 * s.timeout < 2 ^ s.cfg.tw) (h : s.dupCount.val + 1 = 3) :
    s.tmFail = { s with timeout := s.timeout * 2, dupCount := 0 } := by
  rw [tmFail_third (by omega), setTimeout_of_fits (by omega)]

/-- Settles O25: the test of the pseudocode computes the maximum of R123, and both its values fit the width. -/
theorem cleanDeliveryShrinksTimeout : Obligations.CleanDeliveryShrinksTimeout := by
  intro s hvalid hsized
  obtain ⟨htimeout, -⟩ := hsized
  rw [exec_tmClean, tmClean_eq hvalid htimeout]

/-- Settles O27: the two branches of R125, told apart by the count reaching three. -/
theorem failureCountsAndDoubles : Obligations.FailureCountsAndDoubles := by
  intro s hfit
  constructor
  · intro d hd
    rw [exec_tmFail, tmFail_counts hd]
  · intro hthird
    rw [exec_tmFail, tmFail_doubles hfit hthird]

/-- Settles O29: the comparison of R127 is strict, so a timeout at the ceiling answers false. -/
theorem exhaustedIsAboveTheCeiling : Obligations.ExhaustedIsAboveTheCeiling := by
  intro s
  constructor
  · intro habove
    rw [exec_tmExhausted, (tmExhausted_eq_true_iff s).mpr habove, State.answer]
  · intro hwithin
    rw [exec_tmExhausted, (tmExhausted_eq_false_iff s).mpr hwithin, State.answer]

end Sys2Proof.Machine
end

section
/-! The Sender Engine, spec/44_sender_engine.md: where its operations have no step, and its failure step after a mark. -/

namespace Sys2Proof.Machine

/-! ### Operations outside their states -/

theorem exec_rx_elsewhere (frame : List Byte) {s : State} (h : s.state ≠ .awaitingAck) :
    exec (.rx frame) s = .refused .rxNotReady :=
  receive_elsewhere frame h

theorem exec_frameAck_elsewhere (c a q : Byte) (p : List Byte) {s : State} (h : s.state ≠ .awaitingAck) :
    exec (.frameAck c a q p) s = .refused .rxNotReady :=
  receive_elsewhere (c :: a :: q :: p) h

/-- An arm of `RX` has a step in `AwaitingAck` only. -/
theorem receiveAs_awaiting_of_next {c : FrameClass} {frame : List Byte} {s t : State}
    (h : receiveAs c frame s = .next t) : s.state = .awaitingAck :=
  (receive_next (receiveAs_next h).2).1

theorem tmTick_elsewhere {s : State} (h : s.state ≠ .awaitingAck) : s.tmTick = (.waiting, s) := by
  rw [State.tmTick, if_neg h]

theorem exec_tick_elsewhere {s : State} (h : s.state ≠ .awaitingAck) : exec .tick s = .next s := by
  rw [exec, execTick, tmTick_elsewhere h]

theorem exec_tickTimeout_elsewhere {s : State} (h : s.state ≠ .awaitingAck) :
    exec .tickTimeout s = .refused .armNotSelected := by
  rw [exec, execTickTimeout, tmTick_elsewhere h]

theorem exec_xmit_elsewhere {s : State} (h : s.state ≠ .idle) : exec .xmit s = .refused .xmitNotIdle := by
  rw [exec, execXmit, if_neg h]

theorem exec_frameData_elsewhere (c a q : Byte) (p : List Byte) {s : State} (h : s.state ≠ .idle) :
    exec (.frameData c a q p) s = .refused .xmitNotIdle := by
  rw [exec, execFrameData, if_neg h]

theorem exec_next_elsewhere {s : State} (h : s.state ≠ .advancing) : exec .next s = .refused .nextNotAdvancing := by
  rw [exec, execNext, if_neg h]

/-! ### The states a session ends in -/

/-- Of the operations of a trace only `START` and `RESET` write anything while the block is not `busy`. -/
theorem exec_next_of_not_busy {s t : State} {i : Instr} (hbusy : s.busy = false) (hkind : i.kind ≠ .sub)
    (h : exec i s = .next t) : i = .reset ∨ (∃ len isn, i = .start len isn) ∨ i = .tick ∧ t = s := by
  have hidle : s.state ≠ .idle := fun e => by simp [State.busy, e] at hbusy
  have hwait : s.state ≠ .awaitingAck := fun e => by simp [State.busy, e] at hbusy
  have hadv : s.state ≠ .advancing := fun e => by simp [State.busy, e] at hbusy
  cases i with
  | reset => exact .inl rfl
  | start len isn => exact .inr (.inl ⟨len, isn, rfl⟩)
  | tick =>
    rw [exec_tick_elsewhere hwait] at h
    cases h
    exact .inr (.inr ⟨rfl, rfl⟩)
  | rx frame => rw [exec_rx_elsewhere frame hwait] at h; cases h
  | frameAck c a q p => rw [exec_frameAck_elsewhere c a q p hwait] at h; cases h
  | xmit => rw [exec_xmit_elsewhere hidle] at h; cases h
  | frameData c a q p => rw [exec_frameData_elsewhere c a q p hidle] at h; cases h
  | next => rw [exec_next_elsewhere hadv] at h; cases h
  | rxCorrupt | rxGood | rxStale | rxOoo => exact absurd (receiveAs_awaiting_of_next h) hwait
  | tickTimeout => rw [exec_tickTimeout_elsewhere hwait] at h; cases h
  | _ => exact absurd rfl hkind

/-- Settles O50: the registers are R35's items 3, 4 and 6, and the operations are those of a block that is not `busy`. -/
theorem terminalStatesAreLeftByStartOrReset : Obligations.TerminalStatesAreLeftByStartOrReset := by
  refine ⟨?_, ?_, ?_⟩
  · rintro s ⟨-, -, -, ⟨-, -, hpos⟩, -, ⟨hok, -⟩, -, -⟩ hs
    exact ⟨hok.mpr hs, decide_eq_true hs, hpos hs⟩
  · rintro s ⟨-, -, ⟨-, htimeout⟩, -, -, ⟨-, hfatal⟩, -, -⟩ hs
    exact ⟨hfatal.mpr hs, decide_eq_true hs, (htimeout hs).1⟩
  · intro s hs
    have hbusy : s.busy = false := by rcases hs with e | e <;> simp [State.busy, e]
    have hwait : s.state ≠ .awaitingAck := by rcases hs with e | e <;> simp [e]
    exact ⟨fun frame => exec_rx_elsewhere frame hwait, exec_tick_elsewhere hwait,
      fun _ _ => exec_next_of_not_busy hbusy⟩

/-! ### The failure step after a mark -/

/-- `TM_FAIL` neither reads nor writes the outputs. -/
theorem tmFail_withHistory (s : State) (h : List Output) :
    ({ s with history := h } : State).tmFail = { s.tmFail with history := h } := by
  by_cases hd : s.dupCount.val < 2
  · rw [tmFail_below hd, tmFail_below (s := { s with history := h }) hd]
  · have hd' : s.dupCount.val = 2 := by omega
    rw [tmFail_third hd', tmFail_third (s := { s with history := h }) hd']
    rfl

/-- A mark before `ENG_FAIL` changes the outputs alone: neither the doubling nor the ceiling test reads them. -/
theorem engFail_raise (s : State) (e : ErrorClass) :
    (s.raise e).engFail = { s.engFail with history := (s.raise e).engFail.history } := by
  have hfail : (s.raise e).retransmit.tmFail =
      { s.retransmit.tmFail with history := (s.raise e).retransmit.history } :=
    tmFail_withHistory s.retransmit (s.raise e).retransmit.history
  have htimeout : (s.raise e).retransmit.tmFail.timeout = s.retransmit.tmFail.timeout := by rw [hfail]
  rcases engFail_cases s with ⟨hwithin, heq⟩ | ⟨habove, heq⟩
  · obtain ⟨-, heq'⟩ := (engFail_cases (s.raise e)).resolve_right fun ⟨habove, _⟩ =>
      not_lt.mpr hwithin (htimeout ▸ habove)
    rw [heq', heq, hfail]
    rfl
  · obtain ⟨-, heq'⟩ := (engFail_cases (s.raise e)).resolve_left fun ⟨hwithin, _⟩ =>
      not_le.mpr habove (htimeout ▸ hwithin)
    rw [heq', heq, hfail]
    rfl

theorem exec_rxCorrupt {s : State} {frame : List Byte} (hs : s.state = .awaitingAck)
    (hc : s.classify frame = .corrupt) : exec (.rxCorrupt frame) s = .next (s.raise .corruptedFrame).engFail :=
  receiveAs_selected hs hc

theorem exec_rxOoo {s : State} {frame : List Byte} (hs : s.state = .awaitingAck)
    (hc : s.classify frame = .ooo) : exec (.rxOoo frame) s = .next (s.raise .outOfOrderAck).engFail :=
  receiveAs_selected hs hc

theorem exec_rx_awaiting (frame : List Byte) {s : State} (hs : s.state = .awaitingAck) :
    exec (.rx frame) s = .next (s.rxArm (s.classify frame)) :=
  receive_awaiting frame hs

/-- With no segment confirmed yet, the echo length is all the stale test has (R148). -/
theorem classify_ooo_of_first_segment {s : State} {frame : List Byte} (hfirst : s.prevValid = false)
    (hintact : Intact s.cfg frame) (hgood : s.classify frame ≠ .good) (hecho : frame.length ≠ s.cfg.echoLen) :
    s.classify frame = .ooo := by
  rcases classify_cases s frame with ⟨hnot, -⟩ | ⟨-, a, -, hclass⟩
  · exact absurd hintact hnot
  · have hack : a ≠ s.expectedAck := fun ha => hgood (by rw [hclass, if_pos ha])
    rw [hclass, if_neg hack, if_neg (by simp [hecho, hfirst])]

/-- Settles O40: both arms are `ENG_FAIL` after a mark, and the mark reaches nothing but the outputs. -/
theorem badFramesRunTheFailureStep : Obligations.BadFramesRunTheFailureStep := by
  intro s f g hs
  refine ⟨fun hf => ⟨exec_rxCorrupt hs hf, ⟨_, exec_rxCorrupt hs hf⟩, fun hg => ?_⟩,
    fun hg => ⟨exec_rxOoo hs hg, _, exec_rxOoo hs hg⟩,
    fun hf hg => ⟨_, _, exec_rxCorrupt hs hf, exec_rxOoo hs hg, ?_, ?_⟩,
    classify_ooo_of_first_segment⟩
  · rw [exec_rx_awaiting g hs, exec_rx_awaiting f hs, hf, hg]
  · rw [engFail_raise s .outOfOrderAck, engFail_raise s .corruptedFrame]
  · rw [txs_engFail, txs_engFail, txs_raise, txs_raise]
    rfl

end Sys2Proof.Machine
end

section
/-! The decoder, spec/30_encoding.md: it reads back every operand layout, and rejects the codes no operation has. -/

namespace Sys2Proof

/-! ### The operand layouts of log 2 -/

theorem decodeStart_operands {c : Config} {len : Nat} (isn : Byte) (h : len < 2 ^ c.lw) :
    decodeStart c (toBytes c.lenBytes len ++ [isn]) = .ok (.start len isn) := by
  have hlen : (toBytes c.lenBytes len).length = c.lenBytes := length_toBytes _ _
  simp only [decodeStart, List.drop_left' hlen, List.take_left' hlen, ofBytes_toBytes (lt_pow_lenBytes h)]

theorem decodeSplit_operands {c : Config} {off len : Nat} (hoff : off < 2 ^ c.lw) (hlen : len < 2 ^ c.lw) :
    decodeSplit c (toBytes c.lenBytes off ++ toBytes c.lenBytes len) = .ok (.frSplit off len) := by
  have hbytes : (toBytes c.lenBytes off).length = c.lenBytes := length_toBytes _ _
  simp only [decodeSplit, List.length_append, length_toBytes, List.drop_left' hbytes, List.take_left' hbytes,
    ofBytes_toBytes (lt_pow_lenBytes hoff), ofBytes_toBytes (lt_pow_lenBytes hlen), if_true]

theorem decodeNextSeqnum_operands {c : Config} {len : Nat} (prev : Byte) (h : len < 2 ^ c.lw) :
    decodeNextSeqnum c (prev :: toBytes c.lenBytes len) = .ok (.frNextSeqnum prev len) := by
  simp only [decodeNextSeqnum, length_toBytes, if_true, ofBytes_toBytes (lt_pow_lenBytes h)]

theorem decodeTransmit_frame {c : Config} (checksum acknum seqnum b : Byte) {payload : List Byte}
    (h : payload.length + 1 ≤ c.mss) :
    decodeTransmit c (checksum :: acknum :: seqnum :: b :: payload) =
      .ok (.frameData checksum acknum seqnum (b :: payload)) :=
  if_pos h

theorem decodeReceive_frame {c : Config} (checksum acknum seqnum : Byte) {payload : List Byte}
    (h : payload.length ≤ c.mss) :
    decodeReceive c (checksum :: acknum :: seqnum :: payload) = .ok (.frameAck checksum acknum seqnum payload) :=
  if_pos h

/-- Settles O1: an operation with operands of its own by the layout of those, every other by its code alone. -/
theorem decodeOfEncodeIsTheOperation : Obligations.DecodeOfEncodeIsTheOperation := by
  intro c i hwf
  cases i with
  | start len isn => exact decodeStart_operands isn (of_decide_eq_true hwf)
  | frSplit off len =>
    obtain ⟨hoff, hlen⟩ : off < 2 ^ c.lw ∧ len < 2 ^ c.lw := by simpa [Instr.wf] using hwf
    exact decodeSplit_operands hoff hlen
  | frNextSeqnum prev len => exact decodeNextSeqnum_operands prev (of_decide_eq_true hwf)
  | frameData checksum acknum seqnum payload =>
    obtain ⟨hone, hmss⟩ : 1 ≤ payload.length ∧ payload.length ≤ c.mss := by simpa [Instr.wf] using hwf
    cases payload with
    | nil => exact absurd hone (by decide)
    | cons b payload => exact decodeTransmit_frame checksum acknum seqnum b hmss
  | frameAck checksum acknum seqnum payload =>
    exact decodeReceive_frame checksum acknum seqnum (of_decide_eq_true hwf)
  | _ => rfl

/-- Settles O2: each word is decoded by computation. -/
theorem writtenOutWordsDecode : Obligations.WrittenOutWordsDecode := by
  unfold Obligations.WrittenOutWordsDecode
  decide

/-! ### Codes and datagrams -/

theorem some_ofNat_eq {code : Byte} {n : Nat} (h : code.toNat = n) : some (BitVec.ofNat 8 n) = some code := by
  rw [← h, BitVec.ofNat_toNat, BitVec.setWidth_eq]

/-- The code map has an arm for the codes of operations and for no other. -/
theorem decodeCommand_reserved (c : Config) {code : Byte} (rest : List Byte) (h : ∀ i : Instr, i.code ≠ some code) :
    decodeCommand c code rest = .error (.reservedCode code) := by
  unfold decodeCommand
  split
  case h_1 hn => exact absurd (some_ofNat_eq hn) (h .reset)
  case h_2 hn => exact absurd (some_ofNat_eq hn) (h (.start 0 0))
  case h_3 hn => exact absurd (some_ofNat_eq hn) (h (.rx []))
  case h_4 hn => exact absurd (some_ofNat_eq hn) (h .tick)
  case h_5 hn => exact absurd (some_ofNat_eq hn) (h .xmit)
  case h_6 hn => exact absurd (some_ofNat_eq hn) (h .next)
  case h_7 hn => exact absurd (some_ofNat_eq hn) (h (.ckCompute []))
  case h_8 hn => exact absurd (some_ofNat_eq hn) (h (.ckVerify []))
  case h_9 hn => exact absurd (some_ofNat_eq hn) (h (.frSplit 0 0))
  case h_10 hn => exact absurd (some_ofNat_eq hn) (h (.frNextSeqnum 0 0))
  case h_11 hn => exact absurd (some_ofNat_eq hn) (h (.frBuild 0 0 []))
  case h_12 hn => exact absurd (some_ofNat_eq hn) (h (.frParse []))
  case h_13 hn => exact absurd (some_ofNat_eq hn) (h .tmInit)
  case h_14 hn => exact absurd (some_ofNat_eq hn) (h .tmClean)
  case h_15 hn => exact absurd (some_ofNat_eq hn) (h .tmFail)
  case h_16 hn => exact absurd (some_ofNat_eq hn) (h .tmExhausted)
  case h_17 hn => exact absurd (some_ofNat_eq hn) (h .tmArm)
  case h_18 hn => exact absurd (some_ofNat_eq hn) (h .tmTick)
  case h_19 hn => exact absurd (some_ofNat_eq hn) (h (.engClassify []))
  case h_20 hn => exact absurd (some_ofNat_eq hn) (h .engFail)
  case h_21 hn => exact absurd (some_ofNat_eq hn) (h (.rxCorrupt []))
  case h_22 hn => exact absurd (some_ofNat_eq hn) (h (.rxGood []))
  case h_23 hn => exact absurd (some_ofNat_eq hn) (h (.rxStale []))
  case h_24 hn => exact absurd (some_ofNat_eq hn) (h (.rxOoo []))
  case h_25 hn => exact absurd (some_ofNat_eq hn) (h .tickTimeout)
  case h_26 => rfl

/-- Settles O3: the last arm of the code map, the others being codes of operations. -/
theorem reservedCodesAreRejected : Obligations.ReservedCodesAreRejected :=
  fun c _ rest h => decodeCommand_reserved c rest h

/-- A datagram decodes to itself as an `RX`, or to its four fields as an ACK frame where they fit a frame. -/
theorem decodeReceive_cases (c : Config) (bytes : List Byte) :
    decodeReceive c bytes = .ok (.rx bytes) ∨
      ∃ checksum acknum seqnum payload, bytes = checksum :: acknum :: seqnum :: payload ∧ payload.length ≤ c.mss ∧
        decodeReceive c bytes = .ok (.frameAck checksum acknum seqnum payload) := by
  unfold decodeReceive
  split
  · split
    · exact .inr ⟨_, _, _, _, rfl, ‹_›, rfl⟩
    · exact .inl rfl
  · exact .inl rfl

/-- Settles O4: an ACK frame is the `RX` of its bytes, and every other datagram is an `RX` already. -/
theorem everyDatagramIsOneRx : Obligations.EveryDatagramIsOneRx := by
  intro c bytes
  rcases decodeReceive_cases c bytes with h | ⟨checksum, acknum, seqnum, payload, rfl, hfits, h⟩
  · exact ⟨.rx bytes, h, rfl, fun _ => rfl⟩
  · exact ⟨.frameAck checksum acknum seqnum payload, h, decide_eq_true hfits, fun _ => rfl⟩

end Sys2Proof
end

section
/-! The Checksum Codec, spec/41_checksum_codec.md: what it answers, and what its check can miss. -/

namespace Sys2Proof.Machine

theorem ckVerify_iff (frame : List Byte) : ckVerify frame = true ↔ xorFold frame = 0xFF := beq_iff_eq

theorem ckVerify_eq_decide_foldBytes (frame : List Byte) : ckVerify frame = decide (foldBytes frame = 0xFF) := by
  rw [foldBytes_eq_xorFold, Bool.eq_iff_iff, ckVerify_iff, decide_eq_true_iff]

theorem exec_ckCompute (bytes : List Byte) (s : State) :
    exec (.ckCompute bytes) s = .next (s.answer (.byte (ckCompute bytes))) := rfl

theorem exec_ckVerify (frame : List Byte) (s : State) :
    exec (.ckVerify frame) s = .next (s.answer (.bool (ckVerify frame))) := rfl

/-- Settles O14: the model's recursive fold is the left fold of the statement. -/
theorem codecAnswersTheFold : Obligations.CodecAnswersTheFold := by
  intro s bytes
  rw [exec_ckCompute, exec_ckVerify, ckCompute_eq_foldBytes, ckVerify_eq_decide_foldBytes]
  exact ⟨rfl, rfl⟩

theorem ckVerify_cons_iff (c : Byte) (bytes : List Byte) : ckVerify (c :: bytes) = true ↔ c = ckCompute bytes := by
  rw [ckVerify_iff, xorFold, xor_eq_iff_left_eq, ckCompute, BitVec.xor_comm]

/-- The fold does not see where in a frame the checksum stands. -/
theorem ckVerify_append_singleton (bytes : List Byte) (c : Byte) : ckVerify (bytes ++ [c]) = ckVerify (c :: bytes) := by
  simp [ckVerify, xorFold_append, xorFold, BitVec.xor_comm]

/-- Settles O15: the byte that completes the fold to `0xFF` is the complement of the fold. -/
theorem checksumRoundTrip : Obligations.ChecksumRoundTrip := by
  intro bytes c
  rw [ckVerify_append_singleton]
  exact ⟨ckVerify_cons_iff c bytes, ckVerify_cons_iff c bytes⟩

/-- Masks of a frame's length enter its fold by their own fold. -/
theorem xorFold_zipWith_xor : ∀ {frame mask : List Byte}, frame.length = mask.length →
    xorFold (List.zipWith (fun x y => x ^^^ y) frame mask) = xorFold frame ^^^ xorFold mask
  | [], [], _ => rfl
  | x :: frame, y :: mask, h => by
    have ih := xorFold_zipWith_xor (frame := frame) (mask := mask) (by simpa using h)
    simp only [List.zipWith_cons_cons, xorFold, ih]
    ac_rfl

theorem ckVerify_zipWith_xor_iff {frame mask : List Byte} (hlen : frame.length = mask.length)
    (hframe : ckVerify frame = true) :
    ckVerify (List.zipWith (fun x y => x ^^^ y) frame mask) = true ↔ xorFold mask = 0x00 := by
  rw [ckVerify_iff] at hframe
  rw [ckVerify_iff, xorFold_zipWith_xor hlen, hframe]
  exact BitVec.xor_right_inj (y := 0x00) 0xFF

/-- One byte cannot change under a fold that stays. -/
theorem ckVerify_byte_unique {before after : List Byte} {x y : Byte} (hx : ckVerify (before ++ x :: after) = true)
    (hy : ckVerify (before ++ y :: after) = true) : x = y := by
  rw [ckVerify_iff, xorFold_append, xorFold] at hx hy
  rwa [← hy, BitVec.xor_right_inj, BitVec.xor_left_inj] at hx

/-- Settles O16: the masks' fold is all of a corruption that the check sees, and one non-zero byte does not fold to
zero. -/
theorem checksumDetectsCorruption : Obligations.ChecksumDetectsCorruption := by
  constructor
  · intro frame mask hlen hframe
    rw [foldBytes_eq_xorFold]
    exact ckVerify_zipWith_xor_iff hlen hframe
  · intro before after x e he hframe
    by_contra hpass
    have hsame : x = x ^^^ e := ckVerify_byte_unique hframe (Bool.not_eq_false _ ▸ hpass)
    exact he ((BitVec.xor_right_inj x).mp (hsame.symm.trans BitVec.xor_zero.symm))

end Sys2Proof.Machine
end

section
/-! The Segment Framer, spec/42_segment_framer.md: chunks as runs of payload bytes, sequence numbers as a period, and
building against parsing. -/

namespace Sys2Proof.Machine

/-! ### Chunks -/

/-- `count` bytes of the payload, read at consecutive offsets from `off`. -/
def State.payBytes (s : State) (off count : Nat) : List Byte :=
  (List.range count).map (fun i => s.payRead (off + i))

theorem chunk_eq_payBytes (s : State) (off len : Nat) : s.chunk off len = s.payBytes off (chunkLen s.cfg off len) := rfl

@[simp] theorem payBytes_zero (s : State) (off : Nat) : s.payBytes off 0 = [] := rfl

theorem payBytes_add (s : State) (off m n : Nat) :
    s.payBytes off (m + n) = s.payBytes off m ++ s.payBytes (off + m) n := by
  simp [State.payBytes, List.range_add, Function.comp_def, Nat.add_assoc]

theorem getElem?_chunk {s : State} {off len i : Nat} (h : i < (s.chunk off len).length) :
    (s.chunk off len)[i]? = some (s.payRead (off + i)) := by
  rw [length_chunk] at h
  rw [State.chunk, List.getElem?_map, List.getElem?_range h, Option.map_some]

theorem exec_frSplit_inside {off len : Nat} (s : State) (h : off < len) :
    exec (.frSplit off len) s = .next (s.answer (.chunk (chunkLen s.cfg off len) (s.chunk off len))) := by
  rw [exec, execFrSplit, if_pos h]

theorem exec_frSplit_outside {off len : Nat} (s : State) (h : len ≤ off) :
    exec (.frSplit off len) s = .refused .splitOutsidePayload := by
  rw [exec, execFrSplit, if_neg (not_lt.mpr h)]

theorem exec_frSplit_next {off len : Nat} {s t : State} (h : exec (.frSplit off len) s = .next t) :
    ∃ r, t = s.answer r := by
  rw [exec, execFrSplit] at h
  split at h <;> cases h
  exact ⟨_, rfl⟩

/-- Settles O17: the answer is the model's chunk, whose length and bytes are those of R100. -/
theorem splitAnswersTheChunk : Obligations.SplitAnswersTheChunk := by
  intro s off len
  refine ⟨fun h => ⟨s.chunk off len, exec_frSplit_inside s h, length_chunk s off len, fun hmss => ?_,
    fun i => getElem?_chunk⟩, exec_frSplit_outside s⟩
  rw [length_chunk, chunkLen]
  omega

/-- The segment number `k` begins inside `n` bytes exactly when it is one of the `ceil(n / m)`. -/
theorem lt_ceil_iff {m : Nat} (hm : 1 ≤ m) (k n : Nat) : k < (n + m - 1) / m ↔ k * m < n := by
  rw [← Nat.succ_le_iff, Nat.le_div_iff_mul_le (by omega), Nat.succ_mul]
  omega

/-- The first `k` chunks are the payload up to where they end. -/
theorem flatten_chunks (s : State) (len k : Nat) :
    ((List.range k).map (fun j => s.chunk (j * s.cfg.mss) len)).flatten = s.payBytes 0 (min (k * s.cfg.mss) len) := by
  induction k with
  | zero => simp
  | succ k ih =>
    rw [List.range_succ, List.map_append, List.flatten_append, ih, Nat.succ_mul]
    simp only [List.map_cons, List.map_nil, List.flatten_cons, List.flatten_nil, List.append_nil, chunk_eq_payBytes,
      chunkLen]
    rcases Nat.le_total (k * s.cfg.mss) len with hin | hout
    · rw [Nat.min_eq_left hin,
        show min (k * s.cfg.mss + s.cfg.mss) len = k * s.cfg.mss + min s.cfg.mss (len - k * s.cfg.mss) by omega,
        payBytes_add, Nat.zero_add]
    · rw [Nat.sub_eq_zero_of_le hout, Nat.min_zero, payBytes_zero, List.append_nil]
      congr 1
      omega

/-- Settles O18: the chunks' offsets follow each other without a gap, and `ceil(L / MSS)` of them reach the end. -/
theorem chunksReassembleThePayload : Obligations.ChunksReassembleThePayload := by
  intro s len hmss
  refine ⟨?_, fun k hk => ?_, fun k hk => ?_⟩
  · have hreach : len ≤ (len + s.cfg.mss - 1) / s.cfg.mss * s.cfg.mss :=
      not_lt.mp fun h => lt_irrefl _ ((lt_ceil_iff hmss _ len).mpr h)
    rw [flatten_chunks, Nat.min_eq_right hreach]
    simp [State.payBytes]
  · have hnext : (k + 1) * s.cfg.mss < len := (lt_ceil_iff hmss _ _).mp hk
    rw [Nat.succ_mul] at hnext
    rw [length_chunk, chunkLen]
    omega
  · have hlast : k * s.cfg.mss < len := (lt_ceil_iff hmss _ _).mp (hk ▸ Nat.lt_succ_self k)
    have hend : ¬ (k + 1) * s.cfg.mss < len := fun h => (hk ▸ (lt_ceil_iff hmss _ _).mpr h).ne rfl
    rw [Nat.succ_mul] at hend
    rw [length_chunk, chunkLen]
    omega

/-! ### Sequence numbers -/

theorem iterate_frNextSeqnum (c : Config) (x : Byte) (n chunkLen : Nat) :
    (fun b => frNextSeqnum c b chunkLen)^[n] x = BitVec.ofNat 8 (x.toNat + n * c.mss) := by
  induction n with
  | zero => simp
  | succ n ih =>
    rw [Function.iterate_succ_apply', ih]
    apply BitVec.eq_of_toNat_eq
    rw [toNat_frNextSeqnum, BitVec.toNat_ofNat, BitVec.toNat_ofNat, Nat.succ_mul]
    omega

/-- Advances by `m` that add up to a multiple of `d` are the multiples of `d / gcd(m, d)`. -/
theorem dvd_mul_iff_div_gcd_dvd {d : Nat} (hd : 0 < d) (n m : Nat) : d ∣ n * m ↔ d / Nat.gcd m d ∣ n := by
  constructor
  · intro h
    rw [Nat.gcd_comm]
    refine Nat.modEq_zero_iff_dvd.mp (Nat.ModEq.cancel_right_div_gcd hd ?_)
    rw [Nat.zero_mul]
    exact Nat.modEq_zero_iff_dvd.mpr h
  · intro h
    have hprod : d / Nat.gcd m d * Nat.gcd m d ∣ n * m := Nat.mul_dvd_mul h (Nat.gcd_dvd_left m d)
    rwa [Nat.div_mul_cancel (Nat.gcd_dvd_right m d)] at hprod

/-- Settles O20: `n` advances are one by `n * MSS`, which modulo 256 is none exactly at the period. -/
theorem sequenceNumbersAreAPeriod : Obligations.SequenceNumbersAreAPeriod := by
  intro c x n chunkLen
  rw [iterate_frNextSeqnum, ← dvd_mul_iff_div_gcd_dvd (by norm_num), ← BitVec.toNat_inj, BitVec.toNat_ofNat]
  have := x.isLt
  omega

/-! ### Building and parsing -/

theorem frParse_of_length {c : Config} {frame : List Byte} (hmin : 3 ≤ frame.length) (hmax : frame.length ≤ 3 + c.mss) :
    ∃ checksum acknum seqnum payload, frame = checksum :: acknum :: seqnum :: payload ∧
      frParse c frame = some ⟨checksum, acknum, seqnum, payload⟩ := by
  match frame, hmin, hmax with
  | checksum :: acknum :: seqnum :: payload, _, hmax =>
    simp only [List.length_cons] at hmax
    exact ⟨checksum, acknum, seqnum, payload, rfl, if_pos (by omega)⟩

theorem frParse_malformed {c : Config} {frame : List Byte} (h : frame.length < 3 ∨ 3 + c.mss < frame.length) :
    frParse c frame = none := by
  cases hparse : frParse c frame with
  | none => rfl
  | some f =>
    obtain ⟨rfl, hfits⟩ := frParse_eq_some hparse
    simp only [List.length_cons] at h
    omega

theorem exec_frParse_malformed {frame : List Byte} {s : State} (h : frParse s.cfg frame = none) :
    exec (.frParse frame) s = .next (s.answer .malformed) := by
  rw [exec, execFrParse, h]

theorem exec_frParse_fields {frame : List Byte} {s : State} {f : FrameFields} (h : frParse s.cfg frame = some f) :
    exec (.frParse frame) s = .next (s.answer (.fields f)) := by
  rw [exec, execFrParse, h]

theorem exec_frParse_next {frame : List Byte} {s t : State} (h : exec (.frParse frame) s = .next t) :
    ∃ r, t = s.answer r := by
  rw [exec, execFrParse] at h
  split at h <;> cases h <;> exact ⟨_, rfl⟩

/-- Settles O22: the parser looks at the length alone, and the fields are the frame's first three bytes and the rest. -/
theorem parseReadsTheFields : Obligations.ParseReadsTheFields := by
  intro s frame
  refine ⟨fun h => exec_frParse_malformed (frParse_malformed h), fun hmin hmax => ?_⟩
  obtain ⟨checksum, acknum, seqnum, payload, rfl, hparse⟩ := frParse_of_length hmin hmax
  exact ⟨_, exec_frParse_fields hparse, rfl, rfl, rfl, rfl⟩

theorem frParse_frBuild {c : Config} (seqnum acknum : Byte) {chunk : List Byte} (h : chunk.length ≤ c.mss) :
    frParse c (frBuild seqnum acknum chunk) = some ⟨ckCompute (acknum :: seqnum :: chunk), acknum, seqnum, chunk⟩ :=
  if_pos h

theorem frBuild_fields_eq_iff (f : FrameFields) :
    frBuild f.seqnum f.acknum f.payload = f.checksum :: f.acknum :: f.seqnum :: f.payload ↔
      ckVerify (f.checksum :: f.acknum :: f.seqnum :: f.payload) = true := by
  rw [ckVerify_cons_iff, frBuild, List.cons.injEq, and_iff_left rfl, eq_comm]

/-- Settles O23: the checksum is the one field the parser does not compare with the others. -/
theorem buildAndParseAreInverse : Obligations.BuildAndParseAreInverse := by
  constructor
  · intro c seqnum acknum chunk h
    exact ⟨ckVerify_frBuild seqnum acknum chunk, length_frBuild seqnum acknum chunk, frParse_frBuild seqnum acknum h⟩
  · intro c frame f hparse
    obtain ⟨rfl, -⟩ := frParse_eq_some hparse
    exact ⟨frBuild_fields_eq_iff f, rfl⟩

/-! ### The payload buffer -/

theorem payRead_write_same {s : State} {a : Nat} (b : Byte) (h : a < s.payloadLen) :
    ({ s with payload := s.payload.write a b } : State).payRead a = b := by
  simp [State.payRead, h, Memory.read_write_same]

theorem payRead_write_other (s : State) {a x : Nat} (b : Byte) (h : x ≠ a) :
    ({ s with payload := s.payload.write a b } : State).payRead x = s.payRead x := by
  simp [State.payRead, Memory.read_write_other s.payload b h]

/-- Settles O35: the two laws of the buffer, seen through `PayRead`. -/
theorem payReadIsTheHostsByte : Obligations.PayReadIsTheHostsByte :=
  fun s a b ha => ⟨Memory.read_write_same s.payload a b, payRead_write_same b ha,
    fun _ hx => payRead_write_other s b hx⟩

end Sys2Proof.Machine
end

section
/-! The Retransmission Timer, spec/43_retransmission_timer.md: its waits, and runs of one of its operations. -/

namespace Sys2Proof.Machine

/-! ### Lists of operations -/

@[simp] theorem execAll_nil (s : State) : execAll [] s = .next s := rfl

theorem execAll_cons {i : Instr} {is : List Instr} {s t : State} (h : exec i s = .next t) :
    execAll (i :: is) s = execAll is t := by
  simp only [execAll, h]

theorem execAll_cons_next {i : Instr} {is : List Instr} {s t : State} (h : execAll (i :: is) s = .next t) :
    ∃ u, exec i s = .next u ∧ execAll is u = .next t := by
  rw [execAll] at h
  split at h
  · exact ⟨_, ‹_›, h⟩
  · cases h
  · cases h

theorem execAll_append {is js : List Instr} {s t : State} (h : execAll is s = .next t) :
    execAll (is ++ js) s = execAll js t := by
  induction is generalizing s with
  | nil => cases h; rfl
  | cons i is ih =>
    obtain ⟨u, hexec, hrest⟩ := execAll_cons_next h
    rw [List.cons_append, execAll_cons hexec, ih hrest]

/-! ### Starting values and waits -/

theorem exec_tmInit (s : State) : exec .tmInit s = .next s.tmInit := rfl

theorem exec_tmArm (s : State) : exec .tmArm s = .next s.tmArm := rfl

theorem exec_tmTick (s : State) : exec .tmTick s = .next (s.tmTick.2.answer (.tickResult s.tmTick.1)) := rfl

theorem setElapsed_of_fits {s : State} {v : Nat} (h : v < 2 ^ s.cfg.tw) : s.setElapsed v = { s with elapsed := v } := by
  rw [State.setElapsed, Nat.mod_eq_of_lt h]

theorem tmInit_eq {s : State} (h : s.cfg.Valid) :
    s.tmInit = { s with timeout := s.cfg.tInit, dupCount := 0, elapsed := 0 } := by
  rw [State.tmInit, setTimeout_of_fits (tInit_fits h), setElapsed_of_fits (Nat.two_pow_pos _)]

theorem tmArm_eq (s : State) : s.tmArm = { s with elapsed := 0, history := s.history ++ [.setTimeout s.timeout] } := by
  rw [State.tmArm, setElapsed_of_fits (Nat.two_pow_pos _), State.emit]

/-- Settles O24: both write values that fit their widths. -/
theorem timerInitAndArm : Obligations.TimerInitAndArm := by
  intro s hvalid
  rw [exec_tmInit, exec_tmArm, tmInit_eq hvalid, tmArm_eq]
  exact ⟨rfl, rfl⟩

theorem tmTick_counts {s : State} (hfit : s.timeout < 2 ^ s.cfg.tw) (hs : s.state = .awaitingAck)
    (h : s.elapsed + 1 < s.timeout) : s.tmTick = (.waiting, { s with elapsed := s.elapsed + 1 }) := by
  rw [← setElapsed_of_fits (h.trans hfit)]
  simp [State.tmTick, State.waitExpires, hs, h]

theorem tmTick_expires {s : State} (hs : s.state = .awaitingAck) (h : s.timeout ≤ s.elapsed + 1) :
    s.tmTick = (.expired, s.raise .transmissionTimeout) := by
  simp [State.tmTick, State.waitExpires, hs, h]

/-- Settles O30: the three ways of R132. -/
theorem timerTickCountsTheWait : Obligations.TimerTickCountsTheWait := by
  rintro s ⟨hfit, -⟩
  rw [exec_tmTick]
  refine ⟨fun hs => ?_, fun hs h => ?_, fun hs h => ?_⟩
  · rw [tmTick_elsewhere hs, State.answer]
  · rw [tmTick_counts hfit hs h, State.answer]
  · rw [tmTick_expires hs h, State.raise, State.emit, State.answer]

/-! ### Clean deliveries and failures in a row -/

theorem execAll_tmClean {s : State} (k : Nat) (hvalid : s.cfg.Valid) (hfit : s.timeout < 2 ^ s.cfg.tw)
    (hfloor : s.cfg.tMin ≤ s.timeout) :
    execAll (List.replicate k .tmClean) s =
      .next { s with timeout := max s.cfg.tMin (s.timeout - k * s.cfg.tStep) } := by
  induction k generalizing s with
  | zero =>
    rw [Nat.zero_mul, Nat.sub_zero, max_eq_right hfloor]
    rfl
  | succ k ih =>
    have hmin := tMin_fits hvalid
    rw [List.replicate_succ, execAll_cons (exec_tmClean s), tmClean_eq hvalid hfit,
      ih (s := { s with timeout := max s.cfg.tMin (s.timeout - s.cfg.tStep) }) hvalid
        (max_lt hmin ((Nat.sub_le _ _).trans_lt hfit)) (le_max_left _ _)]
    congr 2
    rw [Nat.succ_mul]
    dsimp only
    omega

/-- Settles O26: the floor absorbs, so `k` cuts in a row are one cut of `k * T_STEP`. -/
theorem cleanDeliveriesStopAtTheFloor : Obligations.CleanDeliveriesStopAtTheFloor := by
  rintro s k hvalid ⟨hfit, -⟩ hfloor
  exact ⟨execAll_tmClean k hvalid hfit hfloor, max_le hfloor (Nat.sub_le _ _)⟩

theorem execAll_tmFail_counts {s : State} {n : Nat} {d : Fin 3} (h : s.dupCount.val + n = d.val) :
    execAll (List.replicate n .tmFail) s = .next { s with dupCount := d } := by
  induction n generalizing s with
  | zero =>
    obtain rfl : s.dupCount = d := Fin.ext h
    rfl
  | succ n ih =>
    have hd := d.isLt
    have hcount := tmFail_counts (s := s) (d := ⟨s.dupCount.val + 1, by omega⟩) rfl
    rw [List.replicate_succ, execAll_cons (exec_tmFail s), hcount, ih (by dsimp only; omega)]

/-- Settles O28: the calls before the third failure only count, and the last one doubles. -/
theorem thirdFailureDoubles : Obligations.ThirdFailureDoubles := by
  refine fun s n hfit => ⟨fun d => execAll_tmFail_counts, fun h => ?_⟩
  have hcalls : 0 < n := by omega
  have hcount := execAll_tmFail_counts (s := s) (n := n - 1) (d := 2) (by simp only [Fin.val_two]; omega)
  rw [← Nat.sub_add_cancel hcalls, List.replicate_succ', execAll_append hcount, execAll_cons (exec_tmFail _),
    tmFail_doubles (s := { s with dupCount := 2 }) hfit rfl, execAll_nil, Nat.mul_comm 2]

end Sys2Proof.Machine
end

section
/-! The schedule, spec/60_exceptions.md R176 and R178: what the oldest item offers, and when the block steps by
itself. -/

namespace Sys2Proof.Machine

/-! ### The oldest item -/

theorem offered_nil {s : State} (h : s.script = []) : offered s = .refused .nothingPending := by
  rw [offered, h]

theorem offered_missed {s : State} {rest : List Item} (h : s.script = .missed :: rest) :
    offered s = .refused .lostPulse := by
  rw [offered, h]

theorem offered_hostWrite {s : State} {a : Nat} {b : Byte} {rest : List Item} (h : s.script = .hostWrite a b :: rest)
    (ha : a < 2 ^ s.cfg.lw) : offered s = .next { s with payload := s.payload.write a b, script := rest } := by
  simp only [offered, h, if_pos ha]

theorem offered_word {s : State} {port : Port} {bytes : List Byte} {rest : List Item} {i : Instr}
    (h : s.script = .word port bytes :: rest) (hdecode : decode s.cfg port bytes = .ok i) (hwf : i.wf s.cfg = true) :
    offered s = exec i { s with script := rest } := by
  simp only [offered, h, hdecode, if_pos hwf]

/-! ### The step -/

theorem ownStep_idle {s : State} (h : s.state = .idle) : s.ownStep = some .xmit := by
  rw [State.ownStep, h]

theorem ownStep_advancing {s : State} (h : s.state = .advancing) : s.ownStep = some .next := by
  rw [State.ownStep, h]

theorem ownStep_elsewhere {s : State} (hidle : s.state ≠ .idle) (hadv : s.state ≠ .advancing) : s.ownStep = none := by
  cases h : s.state with
  | idle => exact absurd h hidle
  | advancing => exact absurd h hadv
  | _ => rw [State.ownStep, h]

theorem step_badConfig {s : State} (h : ¬ s.cfg.Valid) : step s = .refused .badConfig := by
  rw [step, takeStep, if_neg h]

theorem step_of_offered_next {s t : State} (hvalid : s.cfg.Valid) (h : offered s = .next t) : step s = .next t := by
  rw [step, takeStep, if_pos hvalid, h]

theorem step_of_offered_refused {s : State} {r : Refusal} {own : Instr} (hvalid : s.cfg.Valid)
    (h : offered s = .refused r) (hown : s.ownStep = some own) : step s = exec own (s.afterUnaccepted r) := by
  rw [step, takeStep, if_pos hvalid, h, hown]

/-- Where the oldest operation has no step the block takes its own. -/
theorem step_of_word_refused {s : State} {port : Port} {bytes : List Byte} {rest : List Item} {i own : Instr}
    {r : Refusal} (hvalid : s.cfg.Valid) (hscript : s.script = .word port bytes :: rest)
    (hdecode : decode s.cfg port bytes = .ok i) (hwf : i.wf s.cfg = true)
    (hexec : exec i { s with script := rest } = .refused r) (hown : s.ownStep = some own) :
    step s = exec own (s.afterUnaccepted r) :=
  step_of_offered_refused hvalid ((offered_word hscript hdecode hwf).trans hexec) hown

theorem step_of_nothing_pending {s : State} {own : Instr} (hvalid : s.cfg.Valid) (h : s.script = [])
    (hown : s.ownStep = some own) : step s = exec own s := by
  rw [step_of_offered_refused hvalid (offered_nil h) hown, afterUnaccepted_nothingPending]

theorem step_eq_offered {s : State} (hvalid : s.cfg.Valid) (hown : s.ownStep = none) : step s = offered s := by
  rw [step, takeStep, if_pos hvalid, hown]
  cases offered s <;> rfl

/-- Settles O5: an accepted item is the step, and a block without an own step has nothing else to do. -/
theorem stepRunsTheOldestItem : Obligations.StepRunsTheOldestItem := by
  intro s port bytes rest i hvalid hscript hdecode hwf
  have hoffered := offered_word hscript hdecode hwf
  refine ⟨fun t ht => step_of_offered_next hvalid (hoffered.trans ht), fun hidle hadv => ?_⟩
  rw [step_eq_offered hvalid (ownStep_elsewhere hidle hadv), hoffered]

/-- Settles O6: an empty schedule refuses like any item without a step. -/
theorem blockTakesItsOwnStep : Obligations.BlockTakesItsOwnStep := by
  refine ⟨fun s hvalid hs => ?_, fun s hvalid hs => ?_, fun s hvalid hidle hadv hscript => ?_⟩
  · exact ⟨fun h => step_of_nothing_pending hvalid h (ownStep_idle hs),
      fun r h => step_of_offered_refused hvalid h (ownStep_idle hs)⟩
  · exact ⟨fun h => step_of_nothing_pending hvalid h (ownStep_advancing hs),
      fun r h => step_of_offered_refused hvalid h (ownStep_advancing hs)⟩
  · rw [step_eq_offered hvalid (ownStep_elsewhere hidle hadv), offered_nil hscript]

/-- Settles O7: each disjunct denies one constraint of R6. -/
theorem badBuildHasNoStep : Obligations.BadBuildHasNoStep := by
  intro s hbad
  apply step_badConfig
  rintro ⟨hmss, -, hlw, hframe, htw, hfloor, hceiling, hstep, hmin, hecho⟩
  omega

/-- Settles O8: the written buffer is the model's own, by the laws of `Memory.write`. -/
theorem hostWritePutsOneByte : Obligations.HostWritePutsOneByte := by
  intro s a b rest hvalid hscript ha
  exact ⟨s.payload.write a b, step_of_offered_next hvalid (offered_hostWrite hscript ha),
    Memory.read_write_same s.payload a b, fun x hx => Memory.read_write_other s.payload b hx, Memory.wf_write a b⟩

end Sys2Proof.Machine
end

section
/-! The Sender Engine, spec/44_sender_engine.md: what `RESET`, `START`, `XMIT`, `NEXT` and `TICK` write, as whole new
states, and where each has a step. -/

namespace Sys2Proof.Machine

/-! ### `RESET` and `START` -/

/-- What `RESET` leaves (R37, R200), the timeout cut to its width. -/
def State.afterReset (s : State) : State :=
  { s with
    state := .noSession, result := .none, currentSeqnum := 0x00, prevSeqnum := 0x00, prevValid := false,
    dupCount := 0, timeout := s.cfg.tInit % 2 ^ s.cfg.tw, elapsed := 0, payloadLen := 0, segOff := 0, pendingLen := 0,
    pendingFrame := freeBytes s.freeCount (3 + s.cfg.mss), freeCount := s.freeCount + (3 + s.cfg.mss) }

/-- What `START` leaves (R140), length and timeout cut to their widths. -/
def State.afterStart (s : State) (len : Nat) (isn : Byte) : State :=
  { s with
    payloadLen := len % 2 ^ s.cfg.lw, segOff := 0, currentSeqnum := isn, prevSeqnum := 0x00, prevValid := false,
    pendingLen := 0, timeout := s.cfg.tInit % 2 ^ s.cfg.tw, dupCount := 0, elapsed := 0,
    state := if len % 2 ^ s.cfg.lw = 0 then .completed else .idle,
    result := if len % 2 ^ s.cfg.lw = 0 then .ok else .none }

theorem clearSession_eq (s : State) (seqnum : Byte) :
    s.clearSession seqnum = { s with
      segOff := 0, pendingLen := 0, currentSeqnum := seqnum, prevSeqnum := 0x00, prevValid := false,
      timeout := s.cfg.tInit % 2 ^ s.cfg.tw, elapsed := 0, dupCount := 0 } := by
  simp [State.clearSession, State.tmInit, State.setElapsed, State.setTimeout, State.setPendingLen, State.setSegOff]

theorem exec_reset (s : State) : exec .reset s = .next s.afterReset := by
  rw [exec, execReset, clearSession_eq, State.setPayloadLen, Nat.zero_mod]
  rfl

theorem exec_start_ready {s : State} (len : Nat) (isn : Byte) (h : s.startReady = true) :
    exec (.start len isn) s = .next (s.afterStart len isn) := by
  rw [exec, execStart, if_pos h, clearSession_eq, State.setPayloadLen_payloadLen]
  split <;> simp [State.afterStart, State.setPayloadLen, *]

theorem exec_start_busy {s : State} (len : Nat) (isn : Byte) (h : s.startReady ≠ true) :
    exec (.start len isn) s = .refused .startWhileBusy := by
  rw [exec, execStart, if_neg h]

theorem exec_start_next {len : Nat} {isn : Byte} {s t : State} (h : exec (.start len isn) s = .next t) :
    s.startReady = true ∧ t = s.afterStart len isn := by
  by_cases hready : s.startReady = true
  · rw [exec_start_ready len isn hready] at h
    cases h; exact ⟨hready, rfl⟩
  · rw [exec_start_busy len isn hready] at h
    cases h

theorem not_startReady {s : State} (h : s.state = .idle ∨ s.state = .awaitingAck ∨ s.state = .advancing) :
    s.startReady ≠ true := by
  rw [ne_eq, startReady_iff]
  rcases h with h | h | h <;> simp [h]

/-- Settles O31: the operands and `T_INIT` fit their widths. -/
theorem startBuildsASession : Obligations.StartBuildsASession := by
  intro s len isn hvalid hlen hs
  rw [exec_start_ready len isn ((startReady_iff s).mpr hs), State.afterStart, Nat.mod_eq_of_lt hlen,
    Nat.mod_eq_of_lt (tInit_fits hvalid)]

/-- Settles O33: `START` takes no register but those named from the state before it. -/
theorem startForgetsThePast : Obligations.StartForgetsThePast := by
  intro s u len isn hcfg hs hu
  refine ⟨_, exec_start_ready len isn hu, ?_⟩
  rw [exec_start_ready len isn hs, State.afterStart, State.afterStart, hcfg]

/-! ### `XMIT` and `NEXT` -/

theorem exec_xmit_idle {s : State} (hs : s.state = .idle) (h : s.segOff < s.payloadLen) :
    exec .xmit s = .next s.sendSegment := by
  rw [exec, execXmit, if_pos hs, if_pos h]

theorem exec_xmit_next {s t : State} (h : exec .xmit s = .next t) :
    s.state = .idle ∧ s.segOff < s.payloadLen ∧ t = s.sendSegment := by
  rw [exec, execXmit] at h
  split at h
  · split at h
    · cases h; exact ⟨‹_›, ‹_›, rfl⟩
    · cases h
  · cases h

theorem exec_frameData_built {s : State} {c a q : Byte} {p : List Byte} (hs : s.state = .idle)
    (h : s.segOff < s.payloadLen) (hframe : s.segmentFrame = c :: a :: q :: p) :
    exec (.frameData c a q p) s = .next s.sendSegment := by
  rw [exec, execFrameData, if_pos hs, if_pos h, if_pos hframe]

theorem exec_frameData_other {s : State} {c a q : Byte} {p : List Byte} (hs : s.state = .idle)
    (h : s.segOff < s.payloadLen) (hframe : s.segmentFrame ≠ c :: a :: q :: p) :
    exec (.frameData c a q p) s = .refused .frameNotBuilt := by
  rw [exec, execFrameData, if_pos hs, if_pos h, if_neg hframe]

/-- A data frame that has a step is an `XMIT`. -/
theorem exec_frameData_next {c a q : Byte} {p : List Byte} {s t : State} (h : exec (.frameData c a q p) s = .next t) :
    exec .xmit s = .next t := by
  rw [exec, execFrameData] at h
  split at h
  · split at h
    · split at h
      · rw [exec_xmit_idle ‹_› ‹_›, h]
      · cases h
    · cases h
  · cases h

/-- What `NEXT` leaves (R160). -/
def State.afterNext (s : State) : State :=
  { s with
    state := if s.segOff < s.payloadLen then .idle else .completed,
    result := if s.segOff < s.payloadLen then s.result else .ok }

theorem exec_next_advancing {s : State} (hs : s.state = .advancing) : exec .next s = .next s.afterNext := by
  rw [exec, execNext, if_pos hs, State.afterNext]
  split <;> rfl

theorem exec_next_next {s t : State} (h : exec .next s = .next t) : s.state = .advancing ∧ t = s.afterNext := by
  by_cases hs : s.state = .advancing
  · rw [exec_next_advancing hs] at h
    cases h; exact ⟨hs, rfl⟩
  · rw [exec_next_elsewhere hs] at h
    cases h

/-- Settles O32: the guard of each operation. -/
theorem eventsOutsideTheirStatesHaveNoStep : Obligations.EventsOutsideTheirStatesHaveNoStep :=
  fun _ => ⟨fun hs len isn => exec_start_busy len isn (not_startReady hs), fun hs frame => exec_rx_elsewhere frame hs,
    exec_xmit_elsewhere, exec_next_elsewhere⟩

/-- Settles O34: `XMIT` is `FR_SPLIT`, `FR_BUILD`, the store, one output and `TM_ARM`. -/
theorem xmitSendsTheSegment : Obligations.XmitSendsTheSegment := by
  intro s hvalid _ hs hleft
  refine ⟨s.chunk s.segOff s.payloadLen, s.segmentFrame, length_chunk _ _ _, fun i => getElem?_chunk,
    frBuild_eq_foldBytes _ _ _, ?_, fun h => step_of_nothing_pending hvalid h (ownStep_idle hs),
    fun r h => step_of_offered_refused hvalid h (ownStep_idle hs)⟩
  rw [exec_xmit_idle hs hleft, sendSegment_eq hvalid, length_chunk, length_segmentFrame]

/-- Settles O44: `NEXT` asks only for bytes left. -/
theorem nextDecidesByBytesLeft : Obligations.NextDecidesByBytesLeft := by
  intro s hs
  refine ⟨fun hleft => ?_, fun hnone => ?_, fun hvalid h => step_of_nothing_pending hvalid h (ownStep_advancing hs),
    fun hvalid r h => step_of_offered_refused hvalid h (ownStep_advancing hs)⟩
  · rw [exec_next_advancing hs, State.afterNext, if_pos hleft, if_pos hleft]
  · rw [exec_next_advancing hs, State.afterNext, if_neg (not_lt.mpr hnone), if_neg (not_lt.mpr hnone)]

theorem chunkLen_pos {c : Config} {off len : Nat} (hvalid : c.Valid) (h : off < len) : 1 ≤ chunkLen c off len := by
  obtain ⟨hmss, -⟩ := hvalid
  rw [chunkLen]
  omega

/-- Settles O45: the frame of `XMIT` has a chunk of 1 to `MSS` bytes behind its header. -/
theorem wireFramesAreXmitAndRx : Obligations.WireFramesAreXmitAndRx := by
  constructor
  · intro s hvalid hs hleft
    have hbuilt : exec (.frameData _ s.cfg.dataAcknum s.currentSeqnum (s.chunk s.segOff s.payloadLen)) s =
      .next s.sendSegment := exec_frameData_built hs hleft rfl
    refine ⟨_, s.chunk s.segOff s.payloadLen, rfl, ?_, ?_, ckVerify_frBuild _ _ _, ?_, ⟨_, hbuilt⟩,
      fun c a q p h => exec_frameData_other hs hleft h.symm⟩
    · rw [length_chunk]
      exact chunkLen_pos hvalid hleft
    · rw [length_chunk]
      exact Nat.min_le_left _ _
    · rw [hbuilt, exec_xmit_idle hs hleft]
  · intro s c a q p hs
    exact ⟨rfl, _, receive_awaiting _ hs⟩

/-! ### `TICK` -/

theorem exec_tick_counts {s : State} (hfit : s.timeout < 2 ^ s.cfg.tw) (hs : s.state = .awaitingAck)
    (h : s.elapsed + 1 < s.timeout) : exec .tick s = .next { s with elapsed := s.elapsed + 1 } := by
  rw [exec, execTick, tmTick_counts hfit hs h]

theorem exec_tick_expires {s : State} (hs : s.state = .awaitingAck) (h : s.timeout ≤ s.elapsed + 1) :
    exec .tick s = .next (s.raise .transmissionTimeout).engFail := by
  rw [exec, execTick, tmTick_expires hs h]

theorem exec_tickTimeout_counts {s : State} (hfit : s.timeout < 2 ^ s.cfg.tw) (hs : s.state = .awaitingAck)
    (h : s.elapsed + 1 < s.timeout) : exec .tickTimeout s = .refused .armNotSelected := by
  rw [exec, execTickTimeout, tmTick_counts hfit hs h]

theorem exec_tickTimeout_expires {s : State} (hs : s.state = .awaitingAck) (h : s.timeout ≤ s.elapsed + 1) :
    exec .tickTimeout s = .next (s.raise .transmissionTimeout).engFail := by
  rw [exec, execTickTimeout, tmTick_expires hs h]

/-- A tick has a step in one of three ways. -/
theorem exec_tick_next {s t : State} (h : exec .tick s = .next t) :
    (s.state ≠ .awaitingAck ∧ t = s) ∨
      (s.state = .awaitingAck ∧ s.elapsed + 1 < s.timeout ∧ t = s.setElapsed (s.elapsed + 1)) ∨
      (s.state = .awaitingAck ∧ s.timeout ≤ s.elapsed + 1 ∧ t = (s.raise .transmissionTimeout).engFail) := by
  rw [exec, execTick] at h
  rcases tmTick_cases s with ⟨hs, e⟩ | ⟨hs, hlt, e⟩ | ⟨hs, hle, e⟩ <;> rw [e] at h <;> cases h
  · exact .inl ⟨hs, rfl⟩
  · exact .inr (.inl ⟨hs, hlt, rfl⟩)
  · exact .inr (.inr ⟨hs, hle, rfl⟩)

theorem exec_tickTimeout_next {s t : State} (h : exec .tickTimeout s = .next t) :
    s.state = .awaitingAck ∧ s.timeout ≤ s.elapsed + 1 ∧ t = (s.raise .transmissionTimeout).engFail := by
  rw [exec, execTickTimeout] at h
  rcases tmTick_cases s with ⟨hs, e⟩ | ⟨hs, hlt, e⟩ | ⟨hs, hle, e⟩ <;> rw [e] at h <;> cases h
  exact ⟨hs, hle, rfl⟩

/-- Settles O43: the three answers of `TM_TICK`, and the arm where it expires. -/
theorem tickCountsOrFails : Obligations.TickCountsOrFails := by
  rintro s ⟨hfit, -⟩
  refine ⟨fun hs => ⟨exec_tick_elsewhere hs, exec_tickTimeout_elsewhere hs⟩,
    fun hs h => ⟨exec_tick_counts hfit hs h, exec_tickTimeout_counts hfit hs h⟩, fun hs h => ?_⟩
  rw [exec_tick_expires hs h, exec_tickTimeout_expires hs h]
  exact ⟨rfl, rfl, _, rfl⟩

/-! ### The failure step -/

/-- How a failure changes count and timeout (R125): it counts, or at the third it doubles and clears. -/
abbrev State.CountsTo (s : State) (d : Fin 3) (v : Nat) : Prop :=
  s.dupCount.val + 1 = d.val ∧ v = s.timeout ∨ s.dupCount.val + 1 = 3 ∧ d = 0 ∧ v = 2 * s.timeout

theorem tmFail_eq {s : State} {d : Fin 3} {v : Nat} (hfit : 2 * s.timeout < 2 ^ s.cfg.tw) (h : s.CountsTo d v) :
    s.tmFail = { s with dupCount := d, timeout := v } := by
  rcases h with ⟨hd, rfl⟩ | ⟨hthird, rfl, rfl⟩
  · exact tmFail_counts hd
  · rw [tmFail_doubles hfit hthird, Nat.mul_comm]

theorem waitAgain_eq (s : State) :
    s.waitAgain = { s with elapsed := 0, state := .awaitingAck, history := s.history ++ [.setTimeout s.timeout] } := by
  rw [State.waitAgain, tmArm_eq]

/-- `XMIT` writes the frame, its length, the wait, the state and the outputs. -/
theorem sendSegment_frame (s : State) :
    s.sendSegment = { s with
      pendingFrame := s.segmentFrame ++ s.pendingFrame.drop s.segmentFrame.length,
      pendingLen := s.segmentFrame.length % 2 ^ s.cfg.lw, elapsed := 0, state := .awaitingAck,
      history := s.history ++ [.tx s.segmentFrame, .setTimeout s.timeout] } := by
  rw [State.sendSegment, waitAgain_eq, State.emit_history, List.append_assoc]
  rfl

section
variable {s : State} {d : Fin 3} {v : Nat} (hfit : 2 * s.timeout < 2 ^ s.cfg.tw) (hcount : s.CountsTo d v)
include hfit hcount

theorem retransmit_tmFail_eq :
    s.retransmit.tmFail = { s with dupCount := d, timeout := v, history := s.history ++ [.tx s.storedFrame] } :=
  tmFail_eq (s := s.retransmit) hfit hcount

theorem engFail_waits (h : v ≤ s.cfg.tMax) :
    s.engFail = { s with
      dupCount := d, timeout := v, elapsed := 0, state := .awaitingAck,
      history := s.history ++ [.tx s.storedFrame, .setTimeout v] } := by
  have hfail := retransmit_tmFail_eq hfit hcount
  obtain ⟨-, heq⟩ := (engFail_cases s).resolve_right fun ⟨habove, _⟩ =>
    not_lt.mpr h (by rwa [hfail] at habove)
  rw [heq, hfail, waitAgain_eq, List.append_assoc]
  rfl

theorem engFail_aborts (h : s.cfg.tMax < v) :
    s.engFail = { s with
      dupCount := d, timeout := v, state := .aborted, result := .fatalTimeoutCeilingExceeded,
      history := s.history ++ [.tx s.storedFrame, .raised .fatalTimeoutCeilingExceeded] } := by
  have hfail := retransmit_tmFail_eq hfit hcount
  obtain ⟨-, heq⟩ := (engFail_cases s).resolve_left fun ⟨hwithin, _⟩ =>
    not_le.mpr h (by rwa [hfail] at hwithin)
  rw [heq, hfail, State.enterAborted, State.raise, State.emit, List.append_assoc]
  rfl

end

/-- Settles O39: `TM_FAIL` gives count and timeout, and the ceiling test what becomes of the session. -/
theorem failureStep : Obligations.FailureStep := by
  intro s d v hfit hcount
  exact ⟨fun h => congrArg Host.Outcome.next (engFail_waits hfit hcount h),
    fun h => congrArg Host.Outcome.next (engFail_aborts hfit hcount h)⟩

theorem engFail_endsWait (s : State) :
    s.engFail.state = .aborted ∨ s.engFail.state = .awaitingAck ∧ s.engFail.elapsed = 0 := by
  rcases engFail_cases s with ⟨-, e⟩ | ⟨-, e⟩ <;> rw [e]
  · exact .inr ⟨rfl, State.waitAgain_elapsed _⟩
  · exact .inl rfl

/-! ### Received frames -/

theorem raiseClass_eq (s : State) (c : FrameClass) :
    s.raiseClass c = { s with history := s.history ++ c.error.toList.map .raised } := by
  cases c with
  | good => simp [State.raiseClass, FrameClass.error]
  | _ => rfl

theorem rxArm_corrupt (s : State) : s.rxArm .corrupt = (s.raise .corruptedFrame).engFail := rfl

theorem rxArm_good (s : State) : s.rxArm .good = s.goodArm := rfl

theorem rxArm_stale (s : State) : s.rxArm .stale = (s.raise .staleAck).staleArm := rfl

theorem rxArm_ooo (s : State) : s.rxArm .ooo = (s.raise .outOfOrderAck).engFail := rfl

theorem staleArm_eq (s : State) :
    s.staleArm = { s with
      elapsed := 0, state := .awaitingAck,
      history := s.history ++ [.tx s.storedFrame, .setTimeout s.timeout] } := by
  rw [State.staleArm, waitAgain_eq, State.retransmit_history, List.append_assoc]
  rfl

theorem rxArm_endsWait (s : State) (c : FrameClass) :
    (s.rxArm c).state = .advancing ∨ (s.rxArm c).state = .aborted ∨
      (s.rxArm c).state = .awaitingAck ∧ (s.rxArm c).elapsed = 0 := by
  cases c with
  | corrupt => exact .inr (engFail_endsWait (s.raise .corruptedFrame))
  | good => exact .inl rfl
  | stale => rw [rxArm_stale, staleArm_eq]; exact .inr (.inr ⟨rfl, rfl⟩)
  | ooo => exact .inr (engFail_endsWait (s.raise .outOfOrderAck))

/-- An arm of `RX` is the event where its class is the frame's. -/
theorem receiveAs_awaiting {s : State} (c : FrameClass) (frame : List Byte) (hs : s.state = .awaitingAck) :
    receiveAs c frame s = if s.classify frame = c then receive frame s else .refused .armNotSelected := by
  split
  · rw [receiveAs_selected hs ‹_›, receive_awaiting frame hs, ‹s.classify frame = c›]
  · rw [receiveAs_unselected hs ‹_›]

/-- Settles O38: the arms are the event behind a test of the class, and no arm leaves the wait as it was. -/
theorem rxTakesExactlyOneArm : Obligations.RxTakesExactlyOneArm := by
  intro s frame
  refine ⟨exec_rx_elsewhere frame, fun hs => ⟨receiveAs_awaiting .corrupt frame hs, receiveAs_awaiting .good frame hs,
    receiveAs_awaiting .stale frame hs, receiveAs_awaiting .ooo frame hs, _, exec_rx_awaiting frame hs,
    rxArm_endsWait s (s.classify frame)⟩⟩

theorem exec_rxGood {s : State} {frame : List Byte} (hs : s.state = .awaitingAck) (hc : s.classify frame = .good) :
    exec (.rxGood frame) s = .next s.goodArm :=
  receiveAs_selected hs hc

theorem exec_rxStale {s : State} {frame : List Byte} (hs : s.state = .awaitingAck) (hc : s.classify frame = .stale) :
    exec (.rxStale frame) s = .next (s.raise .staleAck).staleArm :=
  receiveAs_selected hs hc

/-- Settles O41: `TM_CLEAN` is a maximum, and the confirmed bytes are bytes of the payload. -/
theorem goodFrameAdvances : Obligations.GoodFrameAdvances := by
  rintro s frame hvalid ⟨htimeout, -, hlen, -⟩ hs hc hend
  rw [exec_rxGood hs hc, goodArm_eq hvalid htimeout hlen hend]

/-- Settles O42: the mark, the stored frame and `TM_ARM`, in the order of R154. -/
theorem staleFrameRetransmits : Obligations.StaleFrameRetransmits := by
  intro s frame hs hc
  rw [exec_rxStale hs hc, staleArm_eq, State.raise_history, List.append_assoc, hs.symm]
  rfl

/-! ### The classifier -/

theorem exec_engClassify (frame : List Byte) (s : State) :
    exec (.engClassify frame) s =
      .next ((s.raiseClass (s.classify frame)).answer (.frameClass (s.classify frame))) := rfl

/-- The second byte is the number the frame in flight waits for (R75, R148). -/
abbrev State.CarriesExpected (s : State) (frame : List Byte) : Prop := frame[1]? = some s.expectedAck

/-- The frame has the echo length, or its second byte is the previous number while there is one (R148, D9, D11). -/
abbrev State.LooksStale (s : State) (frame : List Byte) : Prop :=
  frame.length = s.cfg.echoLen ∨ s.prevValid = true ∧ frame[1]? = some s.prevSeqnum

/-- Each class is one outcome of the tests in the order of R148. -/
theorem classify_outcomes (s : State) (frame : List Byte) :
    (¬ Intact s.cfg frame ∧ s.classify frame = .corrupt) ∨
      (Intact s.cfg frame ∧ s.CarriesExpected frame ∧ s.classify frame = .good) ∨
      (Intact s.cfg frame ∧ ¬ s.CarriesExpected frame ∧ s.LooksStale frame ∧ s.classify frame = .stale) ∨
      (Intact s.cfg frame ∧ ¬ s.CarriesExpected frame ∧ ¬ s.LooksStale frame ∧ s.classify frame = .ooo) := by
  rcases classify_cases s frame with h | ⟨hintact, a, ha, hclass⟩
  · exact .inl h
  · simp only [State.CarriesExpected, State.LooksStale, ha, Option.some.injEq]
    split at hclass
    · exact .inr (.inl ⟨hintact, ‹_›, hclass⟩)
    · split at hclass
      · exact .inr (.inr (.inl ⟨hintact, ‹_›, ‹_›, hclass⟩))
      · exact .inr (.inr (.inr ⟨hintact, ‹_›, ‹_›, hclass⟩))

theorem classify_iff (s : State) (frame : List Byte) :
    (s.classify frame = .corrupt ↔ ¬ Intact s.cfg frame) ∧
      (s.classify frame = .good ↔ Intact s.cfg frame ∧ s.CarriesExpected frame) ∧
      (s.classify frame = .stale ↔ Intact s.cfg frame ∧ ¬ s.CarriesExpected frame ∧ s.LooksStale frame) ∧
      (s.classify frame = .ooo ↔ Intact s.cfg frame ∧ ¬ s.CarriesExpected frame ∧ ¬ s.LooksStale frame) := by
  rcases classify_outcomes s frame with ⟨h, hc⟩ | ⟨h, ha, hc⟩ | ⟨h, ha, hl, hc⟩ | ⟨h, ha, hl, hc⟩ <;>
    simp only [hc, reduceCtorEq] <;> tauto

theorem classify_corrupt_iff (s : State) (frame : List Byte) : s.classify frame = .corrupt ↔ ¬ Intact s.cfg frame :=
  (classify_iff s frame).1

theorem classify_good_iff (s : State) (frame : List Byte) :
    s.classify frame = .good ↔ Intact s.cfg frame ∧ s.CarriesExpected frame :=
  (classify_iff s frame).2.1

/-- Settles O36: the marks are those of the class, and each class is characterised by the tests that lead to it. -/
theorem classifyFollowsTheOrder : Obligations.ClassifyFollowsTheOrder := by
  intro s frame
  obtain ⟨hcorrupt, hgood, hstale, hooo⟩ := classify_iff s frame
  refine ⟨s.classify frame, (s.classify frame).error.toList.map .raised, ?_, hcorrupt, hgood, hstale, hooo, fun h => ?_,
    fun h => ?_, fun h => ?_, fun h => ?_⟩
  · rw [exec_engClassify, raiseClass_eq, State.answer]
  all_goals rw [h]; rfl

theorem expectedAck_eq_prevSeqnum_iff {s : State} (h : s.NumbersFollow) (hprev : s.prevValid = true) :
    s.expectedAck = s.prevSeqnum ↔ (s.cfg.mss + (s.pendingLen - 3)) % 256 = 0 := by
  obtain ⟨-, hfollow⟩ := h
  have hcurrent : s.currentSeqnum.toNat = (s.prevSeqnum.toNat + s.cfg.mss) % 256 := by
    rw [hfollow hprev, BitVec.toNat_ofNat]
  have := s.prevSeqnum.isLt
  rw [← BitVec.toNat_inj, State.expectedAck, State.chunkInFlight, BitVec.toNat_ofNat, hcurrent]
  omega

/-- Settles O37: the expected acknum is the previous number moved on by `MSS` and the chunk in flight. -/
theorem goodBeatsStale : Obligations.GoodBeatsStale := by
  intro s hfollow hprev
  have hagree := expectedAck_eq_prevSeqnum_iff hfollow hprev
  refine ⟨hagree, fun frame hintact hnumber hzero => (classify_good_iff s frame).mpr ⟨hintact, ?_⟩⟩
  rw [State.CarriesExpected, hagree.mpr hzero, hnumber]

/-! ### Pulses that are not latched -/

/-- A pulse without a step becomes `missed`, in its place at the head of the schedule. -/
theorem afterUnaccepted_pulse {s : State} {item : Item} {rest : List Item} {r : Refusal} (h : s.script = item :: rest)
    (hr : r = .startWhileBusy ∨ r = .armNotSelected) :
    s.afterUnaccepted r = { s with script := .missed :: rest } := by
  rw [State.afterUnaccepted, if_pos hr, h, List.tail_cons]

/-- Settles O54: what has no step in `Idle` or `Advancing` is refused by name, and only a pulse becomes `missed`. -/
theorem pulsesAreNotLatched : Obligations.PulsesAreNotLatched := by
  constructor
  · intro s port bytes rest i own hvalid hscript hdecode hwf
    constructor
    · intro hs
      have hown : s.ownStep = some own := by
        rcases hs with ⟨hs, rfl⟩ | ⟨hs, rfl⟩
        · exact ownStep_idle hs
        · exact ownStep_advancing hs
      have hbusy : s.state = .idle ∨ s.state = .awaitingAck ∨ s.state = .advancing := by
        rcases hs with ⟨hs, -⟩ | ⟨hs, -⟩ <;> simp [hs]
      have hwait : s.state ≠ .awaitingAck := by
        rcases hs with ⟨hs, -⟩ | ⟨hs, -⟩ <;> simp [hs]
      have hrefused {r : Refusal} (hexec : exec i { s with script := rest } = .refused r) :=
        step_of_word_refused hvalid hscript hdecode hwf hexec hown
      refine ⟨?_, ?_, ?_, ?_, ?_⟩
      · rintro len isn rfl
        rw [hrefused (exec_start_busy len isn (not_startReady hbusy)), afterUnaccepted_pulse hscript (.inl rfl)]
      · rintro rfl
        rw [hrefused (exec_tickTimeout_elsewhere hwait), afterUnaccepted_pulse hscript (.inr rfl)]
      · rintro rfl
        exact step_of_offered_next hvalid ((offered_word hscript hdecode hwf).trans (exec_tick_elsewhere hwait))
      · rintro frame rfl
        rw [hrefused (exec_rx_elsewhere frame hwait), afterUnaccepted_rxNotReady]
      · rintro c a q p rfl
        rw [hrefused (exec_frameAck_elsewhere c a q p hwait), afterUnaccepted_rxNotReady]
    · rintro hs len isn rfl
      rw [step_eq_offered hvalid (ownStep_elsewhere (by simp [hs]) (by simp [hs])), offered_word hscript hdecode hwf]
      exact exec_start_busy len isn (not_startReady (.inr (.inl hs)))
  · intro s rest hvalid hscript
    have hoffered := offered_missed hscript
    refine ⟨fun hs => ?_, fun hs => ?_, fun hidle hadv => ?_⟩
    · rw [step_of_offered_refused hvalid hoffered (ownStep_idle hs), afterUnaccepted_lostPulse]
    · rw [step_of_offered_refused hvalid hoffered (ownStep_advancing hs), afterUnaccepted_lostPulse]
    · rw [step_eq_offered hvalid (ownStep_elsewhere hidle hadv), hoffered]

end Sys2Proof.Machine
end

section
/-! The operations of a trace, spec/10_state.md R35: the nine things one of them can do. -/

namespace Sys2Proof.Machine

/-- What an operation of a trace that has a step does to the block: the rows of R142 as whole next states. -/
inductive TraceEffect (s : State) : State → Prop
  | reset : TraceEffect s s.afterReset
  | start (len : Nat) (isn : Byte) (h : s.startReady = true) : TraceEffect s (s.afterStart len isn)
  | xmit (hs : s.state = .idle) (h : s.segOff < s.payloadLen) : TraceEffect s s.sendSegment
  | good (hs : s.state = .awaitingAck) : TraceEffect s s.goodArm
  | stale (hs : s.state = .awaitingAck) : TraceEffect s (s.raise .staleAck).staleArm
  | failure (e : ErrorClass) (hs : s.state = .awaitingAck)
      (he : e = .corruptedFrame ∨ e = .outOfOrderAck ∨ e = .transmissionTimeout) : TraceEffect s (s.raise e).engFail
  | count (hs : s.state = .awaitingAck) (h : s.elapsed + 1 < s.timeout) : TraceEffect s (s.setElapsed (s.elapsed + 1))
  | inert (hs : s.state ≠ .awaitingAck) : TraceEffect s s
  | next (hs : s.state = .advancing) : TraceEffect s s.afterNext

theorem receive_traceEffect {frame : List Byte} {s t : State} (h : receive frame s = .next t) : TraceEffect s t := by
  obtain ⟨hs, rfl⟩ := receive_next h
  cases s.classify frame with
  | corrupt => exact .failure _ hs (.inl rfl)
  | good => exact .good hs
  | stale => exact .stale hs
  | ooo => exact .failure _ hs (.inr (.inl rfl))

theorem exec_xmit_traceEffect {s t : State} (h : exec .xmit s = .next t) : TraceEffect s t := by
  obtain ⟨hs, hleft, rfl⟩ := exec_xmit_next h
  exact .xmit hs hleft

theorem exec_traceEffect {i : Instr} {s t : State} (hkind : i.kind ≠ .sub) (h : exec i s = .next t) :
    TraceEffect s t := by
  cases i with
  | reset => rw [exec_reset] at h; cases h; exact .reset
  | start len isn => obtain ⟨hready, rfl⟩ := exec_start_next h; exact .start len isn hready
  | xmit => exact exec_xmit_traceEffect h
  | frameData c a q p => exact exec_xmit_traceEffect (exec_frameData_next h)
  | next => obtain ⟨hs, rfl⟩ := exec_next_next h; exact .next hs
  | tick =>
    rcases exec_tick_next h with ⟨hs, rfl⟩ | ⟨hs, hlt, rfl⟩ | ⟨hs, -, rfl⟩
    · exact .inert hs
    · exact .count hs hlt
    · exact .failure _ hs (.inr (.inr rfl))
  | tickTimeout => obtain ⟨hs, -, rfl⟩ := exec_tickTimeout_next h; exact .failure _ hs (.inr (.inr rfl))
  | rx frame => exact receive_traceEffect h
  | frameAck c a q p => exact receive_traceEffect h
  | rxCorrupt | rxGood | rxStale | rxOoo => exact receive_traceEffect (receiveAs_next h).2
  | _ => exact absurd rfl hkind

theorem engFail_cfg (s : State) : s.engFail.cfg = s.cfg := by rw [engFail_frame]

theorem engFail_script (s : State) : s.engFail.script = s.script := by rw [engFail_frame]

theorem TraceEffect.keeps_cfg_script {s t : State} (h : TraceEffect s t) : t.cfg = s.cfg ∧ t.script = s.script := by
  cases h with
  | good => exact ⟨State.tmClean_cfg s, State.tmClean_script s⟩
  | failure e => exact ⟨engFail_cfg _, engFail_script _⟩
  | xmit => rw [sendSegment_frame]; exact ⟨rfl, rfl⟩
  | stale => rw [staleArm_eq]; exact ⟨rfl, rfl⟩
  | _ => exact ⟨rfl, rfl⟩

/-- A step is a write of the host, or an operation on the state with another schedule; from a trace, an operation of
one. -/
theorem step_next_exec {s t : State} (h : step s = .next t) :
    (∃ a b rest, s.script = .hostWrite a b :: rest ∧ t = { s with payload := s.payload.write a b, script := rest }) ∨
      ∃ i script, exec i { s with script := script } = .next t ∧
        (s.ScriptIsTrace → i.kind ≠ .sub ∧ script.all (inTrace s.cfg) = true) := by
  obtain ⟨-, hoffered | ⟨r, own, -, hown, hexec⟩⟩ := step_next h
  · rcases offered_next hoffered with ⟨a, b, rest, hscript, -, rfl⟩ | ⟨port, bytes, rest, i, hscript, hdecode, -, hexec⟩
    · exact .inl ⟨a, b, rest, hscript, rfl⟩
    · refine .inr ⟨i, rest, hexec, fun htrace => ?_⟩
      simpa [State.ScriptIsTrace, hscript, inTrace, hdecode] using htrace
  · have hkind : own.kind ≠ .sub := by simp [ownStep_kind hown]
    rcases afterUnaccepted_cases s r with e | e <;> rw [e] at hexec
    · refine .inr ⟨own, .missed :: s.script.tail, hexec, fun htrace => ⟨hkind, ?_⟩⟩
      rw [List.all_cons, inTrace, Bool.true_and, List.all_eq_true]
      exact fun x hx => List.all_eq_true.mp htrace x (List.mem_of_mem_tail hx)
    · exact .inr ⟨own, s.script, hexec, fun htrace => ⟨hkind, htrace⟩⟩

end Sys2Proof.Machine
end

section
/-! The invariants of the block, spec/10_state.md R35 and R23: each effect of a trace keeps them. -/

namespace Sys2Proof.Machine

/-! ### Results and ranges -/

/-- While a session neither completed nor aborted, `result` is empty. -/
theorem result_eq_none {s : State} (h : s.ResultAgrees) (hcompleted : s.state ≠ .completed)
    (haborted : s.state ≠ .aborted) : s.result = .none := by
  obtain ⟨hok, hfatal⟩ := h
  cases hresult : s.result with
  | none => rfl
  | ok => exact absurd (hok.mp hresult) hcompleted
  | fatalTimeoutCeilingExceeded => exact absurd (hfatal.mp hresult) haborted

theorem resultAgrees_of_none {s : State} (h : s.result = .none) (hcompleted : s.state ≠ .completed)
    (haborted : s.state ≠ .aborted) : s.ResultAgrees := by
  simp [State.ResultAgrees, h, hcompleted, haborted]

theorem result_eq_none_awaiting {s : State} (h : s.Inv) (hs : s.state = .awaitingAck) : s.result = .none := by
  obtain ⟨-, -, -, -, -, hresult, -, -⟩ := h
  exact result_eq_none hresult (by simp [hs]) (by simp [hs])

theorem timeout_le_tMax {s : State} (h : s.Inv) (hs : s.state = .awaitingAck) : s.timeout ≤ s.cfg.tMax := by
  obtain ⟨-, -, ⟨htimeout, -⟩, -, -, -, -, -⟩ := h
  exact (htimeout (by simp [hs])).2

theorem doubled_fits {s : State} (h : s.Inv) (hs : s.state = .awaitingAck) : 2 * s.timeout < 2 ^ s.cfg.tw := by
  have hceiling := timeout_le_tMax h hs
  obtain ⟨⟨-, -, -, -, htw, -⟩, -⟩ := h
  omega

theorem exists_countsTo (s : State) : ∃ d v, s.CountsTo d v := by
  have := s.dupCount.isLt
  by_cases h : s.dupCount.val + 1 < 3
  · exact ⟨⟨s.dupCount.val + 1, h⟩, s.timeout, .inl ⟨rfl, rfl⟩⟩
  · exact ⟨0, 2 * s.timeout, .inr ⟨by omega, rfl, rfl⟩⟩

/-! ### `RESET`, `START` and `NEXT` -/

@[simp] theorem length_freeBytes (start count : Nat) : (freeBytes start count).length = count := by
  simp [freeBytes]

theorem inv_afterReset {s : State} (h : s.Inv) : s.afterReset.Inv := by
  obtain ⟨hvalid, -, -, -, -, -, -, hwf⟩ := h
  have htimeout : s.afterReset.timeout = s.cfg.tInit := Nat.mod_eq_of_lt (tInit_fits hvalid)
  obtain ⟨-, -, -, -, htw, hfloor, hceiling, -⟩ := id hvalid
  refine ⟨hvalid, ⟨Nat.mod_lt _ (Nat.two_pow_pos _), Nat.two_pow_pos _, Nat.two_pow_pos _, Nat.two_pow_pos _,
    Nat.two_pow_pos _, length_freeBytes _ _⟩, ⟨fun _ => htimeout ▸ ⟨hfloor, hceiling⟩, nofun⟩,
    ⟨Nat.le_refl 0, nofun, nofun⟩, nofun, resultAgrees_of_none rfl nofun nofun, .inl (dvd_zero _), hwf⟩

theorem inv_afterStart {s : State} (len : Nat) (isn : Byte) (h : s.Inv) : (s.afterStart len isn).Inv := by
  obtain ⟨hvalid, ⟨-, -, -, -, -, hframe⟩, -, -, -, -, -, hwf⟩ := h
  have htimeout : (s.afterStart len isn).timeout = s.cfg.tInit := Nat.mod_eq_of_lt (tInit_fits hvalid)
  obtain ⟨-, -, -, -, htw, hfloor, hceiling, -⟩ := id hvalid
  have hsized : (s.afterStart len isn).Sized := ⟨Nat.mod_lt _ (Nat.two_pow_pos _), Nat.two_pow_pos _,
    Nat.mod_lt _ (Nat.two_pow_pos _), Nat.two_pow_pos _, Nat.two_pow_pos _, hframe⟩
  refine ⟨hvalid, hsized, ?_⟩
  by_cases hempty : len % 2 ^ s.cfg.lw = 0
  · have hstate : (s.afterStart len isn).state = .completed := if_pos hempty
    have hresult : (s.afterStart len isn).result = .ok := if_pos hempty
    exact ⟨⟨fun _ => htimeout ▸ ⟨hfloor, hceiling⟩, by simp [hstate]⟩,
      ⟨Nat.zero_le _, by simp [hstate], fun _ => hempty.symm⟩, by simp [State.FlightInRange, hstate],
      by simp [State.ResultAgrees, hstate, hresult], .inl (dvd_zero _), hwf⟩
  · have hstate : (s.afterStart len isn).state = .idle := if_neg hempty
    have hresult : (s.afterStart len isn).result = .none := if_neg hempty
    exact ⟨⟨fun _ => htimeout ▸ ⟨hfloor, hceiling⟩, by simp [hstate]⟩,
      ⟨Nat.zero_le _, fun _ => Nat.pos_of_ne_zero hempty, by simp [hstate]⟩, by simp [hstate],
      resultAgrees_of_none hresult (by simp [hstate]) (by simp [hstate]), .inl (dvd_zero _), hwf⟩

theorem inv_afterNext {s : State} (h : s.Inv) (hs : s.state = .advancing) : s.afterNext.Inv := by
  obtain ⟨hvalid, hsized, ⟨htimeout, -⟩, ⟨hle, -, -⟩, -, hresult, halign, hwf⟩ := h
  have hrange := htimeout (by simp [hs])
  have hnone := result_eq_none hresult (by simp [hs]) (by simp [hs])
  refine ⟨hvalid, hsized, ?_⟩
  by_cases hleft : s.segOff < s.payloadLen
  · have hstate : s.afterNext.state = .idle := if_pos hleft
    have hres : s.afterNext.result = .none := (if_pos hleft).trans hnone
    have hdvd : s.cfg.mss ∣ s.segOff := halign.resolve_right fun ⟨_, hend⟩ => hleft.ne hend
    exact ⟨⟨fun _ => hrange, by simp [hstate]⟩, ⟨hle, fun _ => hleft, by simp [hstate]⟩,
      by simp [hstate], resultAgrees_of_none hres (by simp [hstate]) (by simp [hstate]), .inl hdvd, hwf⟩
  · have hstate : s.afterNext.state = .completed := if_neg hleft
    have hres : s.afterNext.result = .ok := if_neg hleft
    have hend : s.segOff = s.payloadLen := by omega
    exact ⟨⟨fun _ => hrange, by simp [hstate]⟩, ⟨hle, by simp [hstate], fun _ => hend⟩,
      by simp [State.FlightInRange, hstate], by simp [State.ResultAgrees, hstate, hres], .inr ⟨.inr hstate, hend⟩, hwf⟩

/-! ### `XMIT` -/

theorem storedFrame_sendSegment {s : State} (h : s.cfg.Valid) : s.sendSegment.storedFrame = s.segmentFrame := by
  rw [sendSegment_eq h, State.storedFrame, List.take_left]

theorem inv_sendSegment {s : State} (h : s.Inv) (hs : s.state = .idle) : s.sendSegment.Inv := by
  obtain ⟨hvalid, ⟨ht, -, hp, ho, -, hframe⟩, ⟨htimeout, -⟩, ⟨hle, hleft, -⟩, -, hresult, halign, hwf⟩ := h
  obtain ⟨hfloor, hceiling⟩ := htimeout (by simp [hs])
  have hnone := result_eq_none hresult (by simp [hs]) (by simp [hs])
  have hone := chunkLen_pos hvalid (hleft (.inl hs))
  have hmss : chunkLen s.cfg s.segOff s.payloadLen ≤ s.cfg.mss := Nat.min_le_left _ _
  have hlen := length_segmentFrame s
  have hdvd : s.cfg.mss ∣ s.segOff := halign.resolve_right (by simp [hs])
  have hmin : 1 ≤ s.cfg.tMin := by obtain ⟨-, -, -, -, -, -, -, -, hmin, -⟩ := id hvalid; exact hmin
  have hstored := storedFrame_sendSegment hvalid
  rw [sendSegment_eq hvalid] at hstored ⊢
  refine ⟨hvalid, ⟨ht, Nat.two_pow_pos _, hp, ho, segmentFrame_fits hvalid, ?_⟩, ⟨fun _ => ⟨hfloor, hceiling⟩, nofun⟩,
    ⟨hle, fun _ => hleft (.inl hs), nofun⟩,
    fun _ => ⟨by dsimp only; omega, by dsimp only; omega, ?_, ?_, rfl, rfl, hmin.trans hfloor⟩,
    resultAgrees_of_none hnone nofun nofun, .inl hdvd, hwf⟩
  · rw [List.length_append, List.length_drop, hframe]
    dsimp only
    omega
  · rw [hlen, Nat.add_sub_cancel_left, chunkLen]
  · rw [hstored]
    exact ckVerify_frBuild _ _ _

/-! ### The arms -/

theorem inv_setElapsed {s : State} (h : s.Inv) (hs : s.state = .awaitingAck) (hlt : s.elapsed + 1 < s.timeout) :
    (s.setElapsed (s.elapsed + 1)).Inv := by
  obtain ⟨hvalid, ⟨ht, -, hsized⟩, htimeout, hpos, hflight, hrest⟩ := h
  obtain ⟨hmin, hmax, hchunk, hverify, hack, hnumber, -⟩ := hflight hs
  rw [setElapsed_of_fits (hlt.trans ht)]
  exact ⟨hvalid, ⟨ht, hlt.trans ht, hsized⟩, htimeout, hpos, fun _ => ⟨hmin, hmax, hchunk, hverify, hack, hnumber, hlt⟩,
    hrest⟩

/-- A failure of a session that goes on. -/
theorem inv_waits {s : State} (h : s.Inv) (hs : s.state = .awaitingAck) {d : Fin 3} {v : Nat} {outputs : List Output}
    (hfloor : s.timeout ≤ v) (hceiling : v ≤ s.cfg.tMax) :
    State.Inv { s with
      dupCount := d, timeout := v, elapsed := 0, state := .awaitingAck, history := outputs } := by
  have hnone := result_eq_none_awaiting h hs
  obtain ⟨hvalid, ⟨-, -, hsized⟩, ⟨htimeout, -⟩, ⟨hle, hleft, -⟩, hflight, -, halign, hwf⟩ := h
  obtain ⟨hmin, hmax, hchunk, hverify, hack, hnumber, -⟩ := hflight hs
  obtain ⟨-, -, -, -, htw, -, -, -, hone, -⟩ := id hvalid
  have hlow := (htimeout (by simp [hs])).1
  exact ⟨hvalid, ⟨by dsimp only; omega, Nat.two_pow_pos _, hsized⟩, ⟨fun _ => ⟨hlow.trans hfloor, hceiling⟩, nofun⟩,
    ⟨hle, fun _ => hleft (.inr hs), nofun⟩,
    fun _ => ⟨hmin, hmax, hchunk, hverify, hack, hnumber, by dsimp only; omega⟩,
    resultAgrees_of_none hnone nofun nofun, .inl (halign.resolve_right (by simp [hs])), hwf⟩

/-- A failure that aborts. -/
theorem inv_aborts {s : State} (h : s.Inv) (hs : s.state = .awaitingAck) {d : Fin 3} {v : Nat} {outputs : List Output}
    (hceiling : s.cfg.tMax < v) (hdouble : v ≤ 2 * s.cfg.tMax) :
    State.Inv { s with
      dupCount := d, timeout := v, state := .aborted, result := .fatalTimeoutCeilingExceeded, history := outputs } := by
  obtain ⟨hvalid, ⟨-, hsized⟩, -, ⟨hle, -, -⟩, -, -, halign, hwf⟩ := h
  obtain ⟨-, -, -, -, htw, -⟩ := id hvalid
  exact ⟨hvalid, ⟨hdouble.trans_lt htw, hsized⟩, ⟨fun hne => absurd rfl hne, fun _ => ⟨hceiling, hdouble⟩⟩,
    ⟨hle, nofun, nofun⟩, nofun, ⟨⟨nofun, nofun⟩, ⟨fun _ => rfl, fun _ => rfl⟩⟩,
    .inl (halign.resolve_right (by simp [hs])), hwf⟩

theorem inv_raise {s : State} (e : ErrorClass) (h : s.Inv) : (s.raise e).Inv := h

theorem inv_engFail {s : State} (h : s.Inv) (hs : s.state = .awaitingAck) : s.engFail.Inv := by
  obtain ⟨d, v, hcount⟩ := exists_countsTo s
  have hfit := doubled_fits h hs
  have hmax := timeout_le_tMax h hs
  have hrange : s.timeout ≤ v ∧ v ≤ 2 * s.timeout := by rcases hcount with ⟨-, hv⟩ | ⟨-, -, hv⟩ <;> omega
  rcases Nat.lt_or_ge s.cfg.tMax v with habove | hwithin
  · rw [engFail_aborts hfit hcount habove]
    exact inv_aborts h hs habove (by omega)
  · rw [engFail_waits hfit hcount hwithin]
    exact inv_waits h hs hrange.1 hwithin

theorem inv_staleArm {s : State} (h : s.Inv) (hs : s.state = .awaitingAck) : s.staleArm.Inv := by
  rw [staleArm_eq]
  exact inv_waits h hs (Nat.le_refl _) (timeout_le_tMax h hs)

/-- The segment in flight ends inside the payload. -/
theorem segOff_add_chunk {s : State} (h : s.Inv) (hs : s.state = .awaitingAck) :
    0 < s.pendingLen - 3 ∧ s.segOff + (s.pendingLen - 3) ≤ s.payloadLen ∧
      (s.pendingLen - 3 = s.cfg.mss ∨ s.segOff + (s.pendingLen - 3) = s.payloadLen) := by
  obtain ⟨-, -, -, -, hflight, -⟩ := h
  obtain ⟨hmin, -, hchunk, -⟩ := hflight hs
  omega

theorem goodArm_eq_of_inv {s : State} (h : s.Inv) (hs : s.state = .awaitingAck) :
    s.goodArm = { s with
      timeout := max s.cfg.tMin (s.timeout - s.cfg.tStep), dupCount := 0, prevSeqnum := s.currentSeqnum,
      prevValid := true, currentSeqnum := BitVec.ofNat 8 (s.currentSeqnum.toNat + s.cfg.mss),
      segOff := s.segOff + (s.pendingLen - 3), state := .advancing } := by
  obtain ⟨-, hend, -⟩ := segOff_add_chunk h hs
  obtain ⟨hvalid, ⟨ht, -, hp, -⟩, -⟩ := h
  exact goodArm_eq hvalid ht hp hend

theorem inv_goodArm {s : State} (h : s.Inv) (hs : s.state = .awaitingAck) : s.goodArm.Inv := by
  have hnone := result_eq_none_awaiting h hs
  obtain ⟨-, hend, hstop⟩ := segOff_add_chunk h hs
  rw [goodArm_eq_of_inv h hs]
  obtain ⟨hvalid, ⟨ht, he, hp, ho, hsized⟩, ⟨htimeout, -⟩, -, -, -, halign, hwf⟩ := h
  obtain ⟨hfloor, hceiling⟩ := htimeout (by simp [hs])
  have hdvd : s.cfg.mss ∣ s.segOff := halign.resolve_right (by simp [hs])
  have hshrunk : max s.cfg.tMin (s.timeout - s.cfg.tStep) ≤ s.timeout := max_le hfloor (Nat.sub_le _ _)
  refine ⟨hvalid, ⟨hshrunk.trans_lt ht, he, hp, hend.trans_lt hp, hsized⟩,
    ⟨fun _ => ⟨le_max_left _ _, hshrunk.trans hceiling⟩, nofun⟩, ⟨hend, nofun, nofun⟩, nofun,
    resultAgrees_of_none hnone nofun nofun, ?_, hwf⟩
  rcases hstop with hfull | hlast
  · exact .inl (by rw [hfull]; exact Nat.dvd_add hdvd (Nat.dvd_refl _))
  · exact .inr ⟨.inl rfl, hlast⟩

/-! ### The step -/

theorem TraceEffect.keeps_inv {s t : State} (h : TraceEffect s t) (hinv : s.Inv) : t.Inv := by
  cases h with
  | reset => exact inv_afterReset hinv
  | start len isn => exact inv_afterStart len isn hinv
  | xmit hs => exact inv_sendSegment hinv hs
  | good hs => exact inv_goodArm hinv hs
  | stale hs => exact inv_staleArm (inv_raise _ hinv) hs
  | failure e hs => exact inv_engFail (inv_raise e hinv) hs
  | count hs hlt => exact inv_setElapsed hinv hs hlt
  | inert => exact hinv
  | next hs => exact inv_afterNext hinv hs

theorem inv_hostWrite {s : State} (a : Nat) (b : Byte) (rest : List Item) (h : s.Inv) :
    State.Inv { s with payload := s.payload.write a b, script := rest } := by
  obtain ⟨hvalid, hsized, htimeout, hpos, hflight, hresult, halign, hwf⟩ := h
  exact ⟨hvalid, hsized, htimeout, hpos, hflight, hresult, halign, Memory.wf_write a b hwf⟩

/-- Settles O10: the host writes only its buffer, and every effect of a trace keeps the invariants. -/
theorem stepKeepsInvariants : Obligations.StepKeepsInvariants := by
  intro s t hinv htrace hstep
  rcases step_next_exec hstep with ⟨a, b, rest, hscript, rfl⟩ | ⟨i, script, hexec, htraced⟩
  · refine ⟨inv_hostWrite a b rest hinv, ?_, rfl⟩
    rw [State.ScriptIsTrace, hscript] at htrace
    exact (Bool.and_eq_true_iff.mp htrace).2
  · obtain ⟨hkind, hscript⟩ := htraced htrace
    have heffect := exec_traceEffect hkind hexec
    obtain ⟨hcfg, hkept⟩ := heffect.keeps_cfg_script
    exact ⟨heffect.keeps_inv hinv, by rw [State.ScriptIsTrace, hcfg, hkept]; exact hscript, hcfg⟩

/-- Only a good frame moves the numbers on, and only it confirms bytes. -/
theorem TraceEffect.keeps_numbers {s t : State} (h : TraceEffect s t) (hinv : s.Inv) (hfollow : s.NumbersFollow) :
    t.NumbersFollow := by
  cases h with
  | reset => exact ⟨by simp [State.afterReset], nofun⟩
  | start len isn => exact ⟨by simp [State.afterStart], nofun⟩
  | good hs =>
    obtain ⟨hone, -⟩ := segOff_add_chunk hinv hs
    rw [goodArm_eq_of_inv hinv hs]
    exact ⟨⟨fun _ => Nat.add_pos_right _ hone, fun _ => rfl⟩, fun _ => rfl⟩
  | xmit => rw [sendSegment_frame]; exact hfollow
  | stale => rw [staleArm_eq]; exact hfollow
  | failure e => rw [engFail_frame]; exact hfollow
  | _ => exact hfollow

/-- Settles O11: `TraceEffect.keeps_numbers`, the host's write touching no number. -/
theorem stepKeepsSequenceNumbers : Obligations.StepKeepsSequenceNumbers := by
  intro s t hinv htrace hfollow hstep
  rcases step_next_exec hstep with ⟨a, b, rest, -, rfl⟩ | ⟨i, script, hexec, htraced⟩
  · exact hfollow
  · exact (exec_traceEffect (htraced htrace).1 hexec).keeps_numbers hinv hfollow

/-! ### The state after reset, and the status ports -/

/-- Settles O9: the table of R37 is the definition, and the invariants are decidable. -/
theorem resetStateMeetsInvariants : Obligations.ResetStateMeetsInvariants := by
  refine ⟨rfl, rfl, rfl, rfl, rfl, rfl, rfl, rfl, rfl, rfl, rfl, rfl, ?_, ?_, ?_⟩ <;> decide +kernel

theorem afterReset_afterReset (s : State) :
    s.afterReset.afterReset = { s.afterReset with
      pendingFrame := s.afterReset.afterReset.pendingFrame, freeCount := s.afterReset.afterReset.freeCount } := rfl

/-- Settles O12: `RESET` reads nothing but the build and the count of free values. -/
theorem resetPutsTheTable : Obligations.ResetPutsTheTable := by
  intro s hvalid
  refine ⟨freeBytes s.freeCount (3 + s.cfg.mss), s.freeCount + (3 + s.cfg.mss), length_freeBytes _ _, ?_,
    fun t ht => ?_⟩
  · rw [exec_reset, State.afterReset, Nat.mod_eq_of_lt (tInit_fits hvalid)]
  · rw [exec_reset] at ht
    cases ht
    exact ⟨_, _, (exec_reset _).trans (congrArg _ (afterReset_afterReset s))⟩

/-- Settles O13: `result` is determined by the state, and each state is of one of the four kinds. -/
theorem statusPortsAgree : Obligations.StatusPortsAgree := by
  rintro s ⟨-, -, -, -, -, hresult, -, -⟩
  have hagree : s.result = match s.state with
      | .completed => .ok
      | .aborted => .fatalTimeoutCeilingExceeded
      | _ => .none := by
    obtain ⟨hok, hfatal⟩ := id hresult
    split
    · exact hok.mpr ‹_›
    · exact hfatal.mpr ‹_›
    · exact result_eq_none hresult ‹_› ‹_›
  cases hs : s.state <;> rw [hs] at hagree <;>
    simp [State.done, State.fatal, State.resultOut, State.startReady, State.busy, State.stateOut, EngineState.code,
      SessionResult.code, hs, hagree]

end Sys2Proof.Machine
end

section
/-! What each operation transmits and where it leads, spec/44_sender_engine.md R142 and R144. -/

namespace Sys2Proof.Machine

/-! ### Transmissions -/

theorem txs_of_history_eq {s t : State} (h : t.history = s.history) : t.txs = s.txs ++ [] := by
  rw [List.append_nil, State.txs, State.txs, h]

theorem length_transmitted_le (i : Instr) (s : State) : (transmitted i s).length ≤ 1 := by
  cases i with
  | rx | frameAck | tick => simp only [transmitted]; split <;> simp
  | _ => simp [transmitted]

theorem receive_txs {frame : List Byte} {s t : State} (h : receive frame s = .next t) :
    t.txs = s.txs ++ if s.classify frame = .good then [] else [s.storedFrame] := by
  obtain ⟨-, rfl⟩ := receive_next h
  exact txs_rxArm s _

theorem receiveAs_txs {c : FrameClass} {frame : List Byte} {s t : State} (h : receiveAs c frame s = .next t) :
    t.txs = s.txs ++ if c = .good then [] else [s.storedFrame] := by
  obtain ⟨hc, hreceive⟩ := receiveAs_next h
  rw [receive_txs hreceive, hc]

theorem txs_sendSegment (s : State) : s.sendSegment.txs = s.txs ++ [s.segmentFrame] := by
  rw [sendSegment_frame]
  simp [State.txs]

theorem txs_raiseClass (s : State) (c : FrameClass) : (s.raiseClass c).txs = s.txs := by
  rw [raiseClass_eq]
  cases c <;> simp [State.txs, FrameClass.error]

theorem txs_tmTick (s : State) : s.tmTick.2.txs = s.txs := by
  rcases tmTick_cases s with ⟨-, e⟩ | ⟨-, -, e⟩ | ⟨-, -, e⟩ <;> rw [e]
  · rfl
  · exact txs_raise s _

theorem exec_txs {i : Instr} {s t : State} (h : exec i s = .next t) : t.txs = s.txs ++ transmitted i s := by
  cases i with
  | reset => rw [exec_reset] at h; cases h; exact txs_of_history_eq rfl
  | start len isn => obtain ⟨-, rfl⟩ := exec_start_next h; exact txs_of_history_eq rfl
  | xmit => obtain ⟨-, -, rfl⟩ := exec_xmit_next h; exact txs_sendSegment s
  | frameData c a q p => obtain ⟨-, -, rfl⟩ := exec_xmit_next (exec_frameData_next h); exact txs_sendSegment s
  | next => obtain ⟨-, rfl⟩ := exec_next_next h; exact txs_of_history_eq rfl
  | rx frame => exact receive_txs h
  | frameAck c a q p => exact receive_txs h
  | rxCorrupt frame => exact receiveAs_txs (c := .corrupt) h
  | rxGood frame => exact receiveAs_txs (c := .good) h
  | rxStale frame => exact receiveAs_txs (c := .stale) h
  | rxOoo frame => exact receiveAs_txs (c := .ooo) h
  | tick =>
    rcases exec_tick_next h with ⟨hs, rfl⟩ | ⟨-, hlt, rfl⟩ | ⟨hs, hle, rfl⟩
    · rw [transmitted, if_neg fun ⟨hwait, _⟩ => hs hwait]
      exact txs_of_history_eq rfl
    · rw [transmitted, if_neg fun ⟨_, hle⟩ => not_le.mpr hlt hle]
      exact txs_of_history_eq rfl
    · rw [transmitted, if_pos ⟨hs, hle⟩, txs_engFail, txs_raise]
      rfl
  | tickTimeout =>
    obtain ⟨-, -, rfl⟩ := exec_tickTimeout_next h
    rw [txs_engFail, txs_raise]
    rfl
  | engFail => cases h; exact txs_engFail s
  | frSplit off len => obtain ⟨r, rfl⟩ := exec_frSplit_next h; exact txs_of_history_eq rfl
  | frParse frame => obtain ⟨r, rfl⟩ := exec_frParse_next h; exact txs_of_history_eq rfl
  | tmClean => cases h; exact txs_of_history_eq (State.tmClean_history s)
  | tmFail => cases h; exact txs_of_history_eq (State.tmFail_history s)
  | tmArm => cases h; simp [State.txs, transmitted]
  | tmTick => cases h; exact (txs_tmTick s).trans (List.append_nil _).symm
  | engClassify frame => cases h; exact (txs_raiseClass s _).trans (List.append_nil _).symm
  | ckCompute | ckVerify | frNextSeqnum | frBuild | tmInit | tmExhausted => cases h; exact txs_of_history_eq rfl

/-- Settles O46: an item and the block's own step are each one operation, and a write of the host is none. -/
theorem eachTransitionTransmitsAtMostOnce : Obligations.EachTransitionTransmitsAtMostOnce := by
  refine ⟨fun i s t h => ⟨exec_txs h, length_transmitted_le i s⟩, fun s t h => ?_⟩
  rcases step_next_exec h with ⟨a, b, rest, -, rfl⟩ | ⟨i, script, hexec, -⟩
  · exact ⟨[], txs_of_history_eq rfl, Nat.zero_le 1⟩
  · exact ⟨transmitted i { s with script := script }, exec_txs (s := { s with script := script }) hexec,
      length_transmitted_le _ _⟩

/-! ### The transition graph -/

theorem failureEdge_engFail {s : State} (e : ErrorClass) (hs : s.state = .awaitingAck) :
    failureEdge s (s.raise e).engFail := by
  refine ⟨hs, ?_⟩
  rcases engFail_cases (s.raise e) with ⟨hwithin, heq⟩ | ⟨habove, heq⟩ <;> rw [heq]
  · rw [State.waitAgain_cfg, State.waitAgain_timeout, State.tmFail_cfg, State.retransmit_cfg,
      if_neg (not_lt.mpr hwithin)]
    rfl
  · rw [State.enterAborted_cfg, State.enterAborted_timeout, State.tmFail_cfg, State.retransmit_cfg,
      if_pos habove]
    rfl

theorem receiveEdge_rxArm {s : State} (c : FrameClass) (hs : s.state = .awaitingAck) : receiveEdge c s (s.rxArm c) := by
  cases c with
  | corrupt => exact failureEdge_engFail _ hs
  | good => exact ⟨hs, rfl⟩
  | stale => exact ⟨hs, rfl⟩
  | ooo => exact failureEdge_engFail _ hs

theorem receive_edge {frame : List Byte} {s t : State} (h : receive frame s = .next t) :
    receiveEdge (s.classify frame) s t := by
  obtain ⟨hs, rfl⟩ := receive_next h
  exact receiveEdge_rxArm _ hs

theorem receiveAs_edge {c : FrameClass} {frame : List Byte} {s t : State} (h : receiveAs c frame s = .next t) :
    s.classify frame = c ∧ receiveEdge c s t := by
  obtain ⟨hc, hreceive⟩ := receiveAs_next h
  exact ⟨hc, hc ▸ receive_edge hreceive⟩

theorem exec_xmit_edge {s t : State} (h : exec .xmit s = .next t) : s.state = .idle ∧ t.state = .awaitingAck := by
  obtain ⟨hs, -, rfl⟩ := exec_xmit_next h
  exact ⟨hs, rfl⟩

theorem exec_graphEdge {i : Instr} {s t : State} (hkind : i.kind ≠ .sub) (hwf : i.wf s.cfg = true)
    (h : exec i s = .next t) : graphEdge i s t := by
  cases i with
  | reset => rw [exec_reset] at h; cases h; rfl
  | start len isn =>
    obtain ⟨hready, rfl⟩ := exec_start_next h
    refine ⟨(startReady_iff s).mp hready, ?_⟩
    rw [State.afterStart, Nat.mod_eq_of_lt (of_decide_eq_true hwf)]
  | xmit => exact exec_xmit_edge h
  | frameData c a q p => exact exec_xmit_edge (exec_frameData_next h)
  | next => obtain ⟨hs, rfl⟩ := exec_next_next h; exact ⟨hs, rfl⟩
  | rx frame => exact receive_edge h
  | frameAck c a q p => exact receive_edge h
  | rxCorrupt | rxGood | rxStale | rxOoo => exact receiveAs_edge h
  | tick =>
    rw [graphEdge]
    rcases exec_tick_next h with ⟨hs, rfl⟩ | ⟨-, hlt, rfl⟩ | ⟨hs, hle, rfl⟩
    · rw [if_neg fun ⟨hwait, _⟩ => hs hwait]
    · rw [if_neg fun ⟨_, hle⟩ => not_le.mpr hlt hle]
      rfl
    · rw [if_pos ⟨hs, hle⟩]
      exact failureEdge_engFail _ hs
  | tickTimeout =>
    obtain ⟨hs, hle, rfl⟩ := exec_tickTimeout_next h
    exact ⟨hle, failureEdge_engFail _ hs⟩
  | _ => exact absurd rfl hkind

/-- Settles O47: the inversion lemma of each operation gives its row. -/
theorem eventsFollowTheGraph : Obligations.EventsFollowTheGraph := fun _ _ _ => exec_graphEdge

end Sys2Proof.Machine
end

section
/-! Which registers an operation leaves alone, spec/10_state.md R20, and the abort, spec/60_exceptions.md R179. -/

namespace Sys2Proof.Machine

/-- Build, schedule, payload and pending frame are the same: what every operation but `RESET`, `START` and the two that
send a new frame leaves alone. -/
structure SameBuffers (s t : State) : Prop where
  cfg : t.cfg = s.cfg
  script : t.script = s.script
  payload : t.payload = s.payload
  payloadLen : t.payloadLen = s.payloadLen
  pendingLen : t.pendingLen = s.pendingLen
  pendingFrame : t.pendingFrame = s.pendingFrame
  freeCount : t.freeCount = s.freeCount

/-- The numbers of the session and its offset are the same. -/
abbrev SameNumbers (s t : State) : Prop :=
  t.currentSeqnum = s.currentSeqnum ∧ t.prevSeqnum = s.prevSeqnum ∧ t.prevValid = s.prevValid ∧ t.segOff = s.segOff

theorem sameBuffers_engFail (s : State) : SameBuffers s s.engFail := by
  rw [engFail_frame]
  exact ⟨rfl, rfl, rfl, rfl, rfl, rfl, rfl⟩

/-- A mark before an operation is none of the buffers. -/
theorem SameBuffers.of_raise {s t : State} {e : ErrorClass} (h : SameBuffers (s.raise e) t) : SameBuffers s t :=
  ⟨h.cfg, h.script, h.payload, h.payloadLen, h.pendingLen, h.pendingFrame, h.freeCount⟩

theorem sameNumbers_engFail (s : State) : SameNumbers s s.engFail := by
  rw [engFail_frame]
  exact ⟨rfl, rfl, rfl, rfl⟩

theorem returned_engFail (s : State) : s.engFail.returned = s.returned := by rw [engFail_frame]

theorem sameBuffers_rxArm (s : State) (c : FrameClass) : SameBuffers s (s.rxArm c) := by
  by_cases hc : c = .good
  · rw [hc, rxArm_good]
    constructor <;> simp [State.goodArm]
  · rw [rxArm_frame s hc]
    exact ⟨rfl, rfl, rfl, rfl, rfl, rfl, rfl⟩

theorem sameNumbers_rxArm (s : State) {c : FrameClass} (hc : c ≠ .good) : SameNumbers s (s.rxArm c) := by
  rw [rxArm_frame s hc]
  exact ⟨rfl, rfl, rfl, rfl⟩

theorem returned_rxArm (s : State) (c : FrameClass) : (s.rxArm c).returned = s.returned := by
  by_cases hc : c = .good
  · rw [hc, rxArm_good]
    simp [State.goodArm]
  · rw [rxArm_frame s hc]

theorem receiveAs_rxArm {c : FrameClass} {frame : List Byte} {s t : State} (h : receiveAs c frame s = .next t) :
    t = s.rxArm c := by
  obtain ⟨hc, hreceive⟩ := receiveAs_next h
  obtain ⟨-, rfl⟩ := receive_next hreceive
  rw [hc]

/-- What a tick, counted or expired, leaves alone. -/
theorem exec_tick_same {s t : State} (h : exec .tick s = .next t) :
    SameBuffers s t ∧ SameNumbers s t ∧ t.returned = s.returned := by
  rcases exec_tick_next h with ⟨-, rfl⟩ | ⟨-, -, rfl⟩ | ⟨-, -, rfl⟩
  · exact ⟨⟨rfl, rfl, rfl, rfl, rfl, rfl, rfl⟩, ⟨rfl, rfl, rfl, rfl⟩, rfl⟩
  · exact ⟨⟨rfl, rfl, rfl, rfl, rfl, rfl, rfl⟩, ⟨rfl, rfl, rfl, rfl⟩, rfl⟩
  · exact ⟨(sameBuffers_engFail _).of_raise, sameNumbers_engFail (s.raise _), returned_engFail (s.raise _)⟩

theorem tmTick_frame (s : State) :
    s.tmTick.2 = { s with elapsed := s.tmTick.2.elapsed, history := s.tmTick.2.history } := by
  rcases tmTick_cases s with ⟨-, e⟩ | ⟨-, -, e⟩ | ⟨-, -, e⟩ <;> rw [e] <;> rfl

/-- The clauses that hold of an operation because it leaves the buffers alone; the others are its own. -/
theorem written_of_sameBuffers {s t : State} {numbers answer outcome timer : Prop} (h : SameBuffers s t) (hn : numbers)
    (ha : answer) (ho : outcome) (ht : timer) :
    t.cfg = s.cfg ∧ t.script = s.script ∧ (∀ a, t.payload.read a = s.payload.read a) ∧ t.payload = s.payload ∧
      t.payloadLen = s.payloadLen ∧ numbers ∧ t.pendingLen = s.pendingLen ∧
      ((∀ j, t.pendingByte j = s.pendingByte j) ∧ t.freeCount = s.freeCount) ∧ answer ∧ outcome ∧ timer :=
  ⟨h.cfg, h.script, fun a => by rw [h.payload], h.payload, h.payloadLen, hn, h.pendingLen,
    ⟨fun j => by rw [State.pendingByte, State.pendingByte, h.pendingFrame], h.freeCount⟩, ha, ho, ht⟩

/-- The clauses of a sub-operation other than `ENG_FAIL`, which writes timer registers, outputs and its answer alone. -/
theorem written_of_sub {s t : State} {answer timer kind other : Prop}
    (h : t = { s with
      dupCount := t.dupCount, timeout := t.timeout, elapsed := t.elapsed, history := t.history,
      returned := t.returned })
    (ha : answer) (ht : timer) :
    t.cfg = s.cfg ∧ t.script = s.script ∧ (∀ a, t.payload.read a = s.payload.read a) ∧ t.payload = s.payload ∧
      t.payloadLen = s.payloadLen ∧ SameNumbers s t ∧ t.pendingLen = s.pendingLen ∧
      ((∀ j, t.pendingByte j = s.pendingByte j) ∧ t.freeCount = s.freeCount) ∧ answer ∧
      (kind → other → t.state = s.state ∧ t.result = s.result) ∧ timer := by
  refine written_of_sameBuffers ?_ ?_ ha ?_ ht <;> rw [h]
  · exact ⟨rfl, rfl, rfl, rfl, rfl, rfl, rfl⟩
  · exact ⟨rfl, rfl, rfl, rfl⟩
  · exact fun _ _ => ⟨rfl, rfl⟩

theorem tmClean_frame (s : State) : s.tmClean = { s with timeout := s.tmClean.timeout } := by
  unfold State.tmClean
  split <;> rfl

theorem pendingByte_sendSegment (s : State) {j : Nat} (h : s.segmentFrame.length ≤ j) :
    s.sendSegment.pendingByte j = s.pendingByte j := by
  rw [sendSegment_frame, State.pendingByte, State.pendingByte, List.getElem?_append_right h, List.getElem?_drop,
    Nat.add_sub_cancel' h]

/-- The clauses of the two operations that send a new frame. -/
theorem written_of_xmit {s t : State} {outcome : Prop} (h : exec .xmit s = .next t) (ho : outcome) :
    t.cfg = s.cfg ∧ t.script = s.script ∧ (∀ a, t.payload.read a = s.payload.read a) ∧ t.payload = s.payload ∧
      t.payloadLen = s.payloadLen ∧ SameNumbers s t ∧ True ∧
      (∀ j, s.segmentFrame.length ≤ j → t.pendingByte j = s.pendingByte j) ∧
      (Instr.xmit.kind ≠ .sub → t.returned = s.returned) ∧ outcome ∧
      t.timeout = s.timeout ∧ t.dupCount = s.dupCount ∧ t.result = s.result := by
  obtain ⟨-, -, rfl⟩ := exec_xmit_next h
  have hbytes := fun j => pendingByte_sendSegment s (j := j)
  rw [sendSegment_frame] at hbytes ⊢
  exact ⟨rfl, rfl, fun _ => rfl, rfl, rfl, ⟨rfl, rfl, rfl, rfl⟩, trivial, hbytes, fun _ => rfl, ho, rfl, rfl, rfl⟩

/-- Settles O48: each operation is cited by its inversion lemma, and what is left is a field of the next state. -/
theorem registersAreWrittenByTheirWriters : Obligations.RegistersAreWrittenByTheirWriters := by
  intro i s t h
  cases i with
  | reset =>
    rw [exec_reset] at h
    cases h
    exact ⟨rfl, rfl, fun _ => rfl, rfl, trivial, trivial, trivial, trivial, fun _ => rfl, nofun, trivial⟩
  | start len isn =>
    obtain ⟨-, rfl⟩ := exec_start_next h
    exact ⟨rfl, rfl, fun _ => rfl, rfl, trivial, trivial, trivial, ⟨fun _ => rfl, rfl⟩, fun _ => rfl, nofun, trivial⟩
  | xmit => exact written_of_xmit h nofun
  | frameData c a q p =>
    obtain ⟨hcfg, hscript, hread, hpayload, hlen, hnumbers, -, hbytes, hreturned, -, htimer⟩ :=
      written_of_xmit (exec_frameData_next h) trivial
    exact ⟨hcfg, hscript, hread, hpayload, hlen, hnumbers, trivial, hbytes, fun _ => hreturned nofun, nofun, htimer⟩
  | next =>
    obtain ⟨-, rfl⟩ := exec_next_next h
    exact written_of_sameBuffers ⟨rfl, rfl, rfl, rfl, rfl, rfl, rfl⟩ ⟨rfl, rfl, rfl, rfl⟩ (fun _ => rfl) nofun
      ⟨rfl, rfl, rfl⟩
  | rx | frameAck =>
    obtain ⟨-, rfl⟩ := receive_next h
    exact written_of_sameBuffers (sameBuffers_rxArm s _) (or_iff_not_imp_left.mpr (sameNumbers_rxArm s))
      (fun _ => returned_rxArm s _) nofun trivial
  | rxCorrupt | rxOoo =>
    obtain rfl := receiveAs_rxArm h
    exact written_of_sameBuffers (sameBuffers_rxArm s _) (sameNumbers_rxArm s nofun) (fun _ => returned_rxArm s _) nofun
      trivial
  | rxStale frame =>
    obtain rfl := receiveAs_rxArm h
    refine written_of_sameBuffers (sameBuffers_rxArm s _) (sameNumbers_rxArm s nofun) (fun _ => returned_rxArm s _) nofun
      ?_
    rw [rxArm_stale, staleArm_eq]
    exact ⟨rfl, rfl, rfl⟩
  | rxGood frame =>
    obtain rfl := receiveAs_rxArm h
    exact written_of_sameBuffers (sameBuffers_rxArm s _) trivial (fun _ => returned_rxArm s _) nofun
      ⟨State.tmClean_elapsed s, State.tmClean_result s⟩
  | tick =>
    obtain ⟨hbuffers, hnumbers, hreturned⟩ := exec_tick_same h
    exact written_of_sameBuffers hbuffers hnumbers (fun _ => hreturned) nofun trivial
  | tickTimeout =>
    obtain ⟨-, -, rfl⟩ := exec_tickTimeout_next h
    exact written_of_sameBuffers (sameBuffers_engFail _).of_raise (sameNumbers_engFail (s.raise _))
      (fun _ => returned_engFail (s.raise _)) nofun trivial
  | engFail =>
    cases h
    exact written_of_sameBuffers (sameBuffers_engFail s) (sameNumbers_engFail s) nofun
      (fun _ hne => absurd rfl hne) trivial
  | tmInit => cases h; exact written_of_sub rfl nofun trivial
  | tmArm => cases h; exact written_of_sub rfl nofun ⟨rfl, rfl⟩
  | tmClean => cases h; rw [tmClean_frame]; exact written_of_sub rfl nofun ⟨rfl, rfl⟩
  | tmFail => cases h; rw [tmFail_frame]; exact written_of_sub rfl nofun rfl
  | tmTick => cases h; rw [tmTick_frame]; exact written_of_sub rfl nofun ⟨rfl, rfl⟩
  | engClassify frame => cases h; rw [raiseClass_eq]; exact written_of_sub rfl nofun ⟨rfl, rfl, rfl⟩
  | frSplit off len => obtain ⟨r, rfl⟩ := exec_frSplit_next h; exact written_of_sub rfl nofun ⟨rfl, rfl, rfl⟩
  | frParse frame => obtain ⟨r, rfl⟩ := exec_frParse_next h; exact written_of_sub rfl nofun ⟨rfl, rfl, rfl⟩
  | ckCompute | ckVerify | frNextSeqnum | frBuild | tmExhausted =>
    cases h; exact written_of_sub rfl nofun ⟨rfl, rfl, rfl⟩

end Sys2Proof.Machine
end

section
/-! The abort, spec/60_exceptions.md R174 and R179: only the third failure of a segment marks it. -/

namespace Sys2Proof.Machine

/-- What the failure step after a mark adds to the outputs, and, where that is an abort, the whole state it leaves. -/
theorem failure_outcomes {s : State} (e : ErrorClass) (h : s.Inv) (hs : s.state = .awaitingAck) :
    (∃ v, (s.raise e).engFail.history = s.history ++ [.raised e, .tx s.storedFrame, .setTimeout v]) ∨
      s.dupCount = 2 ∧ s.cfg.tMax < 2 * s.timeout ∧
        (s.raise e).engFail = { s with
          state := .aborted, result := .fatalTimeoutCeilingExceeded, timeout := 2 * s.timeout, dupCount := 0,
          history := s.history ++ [.raised e, .tx s.storedFrame, .raised .fatalTimeoutCeilingExceeded] } := by
  obtain ⟨d, v, hcount⟩ := exists_countsTo s
  have hfit := doubled_fits h hs
  rcases Nat.lt_or_ge s.cfg.tMax v with habove | hwithin
  · rcases hcount with ⟨-, rfl⟩ | ⟨hthird, rfl, rfl⟩
    · exact absurd (timeout_le_tMax h hs) (not_le.mpr habove)
    · refine .inr ⟨Fin.ext (Nat.succ_injective hthird), habove, ?_⟩
      rw [engFail_aborts (s := s.raise e) hfit (.inr ⟨hthird, rfl, rfl⟩) habove, State.raise_history, List.append_assoc]
      rfl
  · refine .inl ⟨v, ?_⟩
    rw [engFail_waits (s := s.raise e) hfit hcount hwithin, State.raise_history, List.append_assoc]
    rfl

/-- An effect that adds the fatal mark is a failure that aborts. -/
theorem TraceEffect.fatal {s t : State} {marks : List Output} (h : TraceEffect s t) (hinv : s.Inv)
    (hmarks : t.history = s.history ++ marks) (hfatal : .raised .fatalTimeoutCeilingExceeded ∈ marks) :
    ∃ e, (e = .corruptedFrame ∨ e = .outOfOrderAck ∨ e = .transmissionTimeout) ∧
      marks = [.raised e, .tx s.storedFrame, .raised .fatalTimeoutCeilingExceeded] ∧ s.dupCount = 2 ∧
      s.cfg.tMax < 2 * s.timeout ∧
      t = { s with
        state := .aborted, result := .fatalTimeoutCeilingExceeded, timeout := 2 * s.timeout, dupCount := 0,
        history := t.history } := by
  have hnone : t.history ≠ s.history := by
    intro hsame
    rw [List.self_eq_append_right.mp (hsame.symm.trans hmarks)] at hfatal
    exact List.not_mem_nil hfatal
  have hadds {outputs : List Output} (ho : t.history = s.history ++ outputs) : marks = outputs :=
    List.append_cancel_left (hmarks.symm.trans ho)
  cases h with
  | reset | start | inert | next | count => exact absurd rfl hnone
  | good => exact absurd (State.tmClean_history s) hnone
  | xmit =>
    have := hadds (by rw [sendSegment_frame])
    simp [this] at hfatal
  | stale =>
    have := hadds (by rw [staleArm_eq, State.raise_history, List.append_assoc])
    simp [this] at hfatal
  | failure e hs he =>
    rcases failure_outcomes e hinv hs with ⟨v, hhistory⟩ | ⟨hcount, habove, heq⟩
    · have hmark : e = .fatalTimeoutCeilingExceeded := by simpa [hadds hhistory, eq_comm] using hfatal
      subst hmark
      exact absurd he (by decide)
    · exact ⟨e, he, hadds (by rw [heq]), hcount, habove, by rw [heq]⟩

/-- `START`, `XMIT`, `NEXT`, a stale and a good frame lead to other states. -/
theorem exec_ne_aborted {s t : State} (h : t.state = .aborted) :
    (∀ frame, exec (.rxStale frame) s ≠ .next t) ∧ (∀ frame, exec (.rxGood frame) s ≠ .next t) ∧
      (∀ len isn, exec (.start len isn) s ≠ .next t) ∧ exec .xmit s ≠ .next t ∧ exec .next s ≠ .next t := by
  refine ⟨fun frame hexec => ?_, fun frame hexec => ?_, fun len isn hexec => ?_, fun hexec => ?_, fun hexec => ?_⟩
  · obtain rfl := receiveAs_rxArm hexec
    cases h
  · obtain rfl := receiveAs_rxArm hexec
    cases h
  · obtain ⟨-, rfl⟩ := exec_start_next hexec
    simp only [State.afterStart] at h
    split at h <;> cases h
  · obtain ⟨-, -, rfl⟩ := exec_xmit_next hexec
    cases h
  · obtain ⟨-, rfl⟩ := exec_next_next hexec
    simp only [State.afterNext] at h
    split at h <;> cases h

/-- Settles O49: the outputs of each effect are known, and one of them alone has the fatal mark. -/
theorem abortComesOnTheThirdFailure : Obligations.AbortComesOnTheThirdFailure := by
  intro i s t marks hinv hkind hexec hmarks hfatal
  obtain ⟨e, he, hlist, hcount, habove, ht⟩ := (exec_traceEffect hkind hexec).fatal hinv hmarks hfatal
  obtain ⟨hstale, hgood, hstart, hxmit, hnext⟩ := exec_ne_aborted (s := s) (t := t) (by rw [ht])
  refine ⟨?_, by simp [hlist], hcount, habove, ht, ?_⟩
  · rcases he with rfl | rfl | rfl <;> simp [hlist]
  · cases i with
    | rxStale frame => exact hstale frame hexec
    | rxGood frame => exact hgood frame hexec
    | start len isn => exact hstart len isn hexec
    | xmit => exact hxmit hexec
    | next => exact hnext hexec
    | _ => trivial

end Sys2Proof.Machine
end

section
/-! Retransmissions, spec/20_memory.md R63 and spec/42_segment_framer.md R106: the stored frame is all that is sent
again. -/

namespace Sys2Proof.Machine

theorem SameBuffers.storedFrame {s t : State} (h : SameBuffers s t) : t.storedFrame = s.storedFrame := by
  rw [State.storedFrame, State.storedFrame, h.pendingFrame, h.pendingLen]

/-- A tick or a received frame sends the stored frame at most once and keeps it. -/
theorem exec_resends {i : Instr} {s t : State} (hi : i = .tick ∨ ∃ frame, i = .rx frame) (h : exec i s = .next t) :
    t.storedFrame = s.storedFrame ∧ ∃ n, t.txs = s.txs ++ List.replicate n s.storedFrame := by
  have htxs := exec_txs h
  rcases hi with rfl | ⟨frame, rfl⟩
  · refine ⟨(exec_tick_same h).1.storedFrame, ?_⟩
    rw [transmitted] at htxs
    split at htxs
    · exact ⟨1, htxs⟩
    · exact ⟨0, htxs⟩
  · obtain ⟨-, rfl⟩ := receive_next h
    refine ⟨(sameBuffers_rxArm s _).storedFrame, ?_⟩
    rw [transmitted] at htxs
    split at htxs
    · exact ⟨0, htxs⟩
    · exact ⟨1, htxs⟩

theorem execAll_resends {events : List Instr} {s t : State} (hevents : ∀ i ∈ events, i = .tick ∨ ∃ frame, i = .rx frame)
    (h : execAll events s = .next t) : ∃ n, t.txs = s.txs ++ List.replicate n s.storedFrame := by
  induction events generalizing s with
  | nil =>
    cases h
    exact ⟨0, (List.append_nil _).symm⟩
  | cons i events ih =>
    obtain ⟨u, hexec, hrest⟩ := execAll_cons_next h
    obtain ⟨hstored, m, hfirst⟩ := exec_resends (hevents i List.mem_cons_self) hexec
    obtain ⟨n, hlater⟩ := ih (fun j hj => hevents j (List.mem_cons_of_mem i hj)) hrest
    exact ⟨m + n, by rw [hlater, hfirst, hstored, List.append_assoc, List.replicate_append_replicate]⟩

/-- Settles O51: what `XMIT` built is what it stored. -/
theorem retransmissionsAreVerbatim : Obligations.RetransmissionsAreVerbatim := by
  intro s u t events hvalid _ hxmit hevents hrun
  obtain ⟨-, -, rfl⟩ := exec_xmit_next hxmit
  obtain ⟨n, htxs⟩ := execAll_resends hevents hrun
  rw [storedFrame_sendSegment hvalid] at htxs
  exact ⟨n, txs_sendSegment s, htxs⟩

end Sys2Proof.Machine
end

section
/-! A stream of corrupt frames, spec/43_retransmission_timer.md R128: three failures to a doubling, until the
ceiling. -/

namespace Sys2Proof.Machine

/-- `d` is the least number of doublings that takes the timeout past the ceiling. -/
abbrev State.DoublingsLeft (s : State) (d : Nat) : Prop :=
  s.cfg.tMax < s.timeout * 2 ^ d ∧ ∀ e, e < d → s.timeout * 2 ^ e ≤ s.cfg.tMax

theorem exec_rx_corrupt {s : State} {frame : List Byte} (hs : s.state = .awaitingAck) (hf : ¬ Intact s.cfg frame) :
    exec (.rx frame) s = .next (s.raise .corruptedFrame).engFail := by
  rw [exec_rx_awaiting frame hs, (classify_corrupt_iff s frame).mpr hf, rxArm_corrupt]

/-- A doubling below the ceiling uses up one of those left. -/
theorem doublingsLeft_double {s : State} {d : Nat} {t : State} (h : s.DoublingsLeft (d + 1)) (hcfg : t.cfg = s.cfg)
    (ht : t.timeout = 2 * s.timeout) : t.DoublingsLeft d := by
  have hpow (e : Nat) : t.timeout * 2 ^ e = s.timeout * 2 ^ (e + 1) := by rw [ht, pow_succ]; ring
  rw [State.DoublingsLeft, hcfg, hpow]
  exact ⟨h.1, fun e he => by rw [hpow]; exact h.2 (e + 1) (Nat.succ_lt_succ he)⟩

/-- One failure: it aborts at the third with one doubling left, and else one failure fewer is left. -/
theorem failure_counts_down {s : State} {d : Nat} (e : ErrorClass) (h : s.Inv) (hs : s.state = .awaitingAck)
    (hd : s.DoublingsLeft d) :
    (s.dupCount.val = 2 ∧ d = 1 ∧ (s.raise e).engFail.state = .aborted ∧
      (s.raise e).engFail.result = .fatalTimeoutCeilingExceeded ∧ (s.raise e).engFail.timeout = s.timeout * 2 ^ d ∧
      (s.raise e).engFail.dupCount = 0) ∨
    ∃ k, (s.raise e).engFail.state = .awaitingAck ∧ (s.raise e).engFail.DoublingsLeft k ∧
      (s.raise e).engFail.timeout * 2 ^ k = s.timeout * 2 ^ d ∧
      3 * d + (s.raise e).engFail.dupCount.val = 3 * k + s.dupCount.val + 1 := by
  obtain ⟨c, v, hcount⟩ := exists_countsTo s
  have hfit := doubled_fits h hs
  have hmax := timeout_le_tMax h hs
  rcases id hcount with ⟨hc, rfl⟩ | ⟨hthird, rfl, rfl⟩
  · rw [engFail_waits (s := s.raise e) hfit hcount hmax]
    exact .inr ⟨d, rfl, hd, rfl, by dsimp only; omega⟩
  · cases d with
    | zero => exact absurd (by simpa using hd.1) (not_lt.mpr hmax)
    | succ d =>
      rcases Nat.eq_zero_or_pos d with rfl | hpos
      · rw [engFail_aborts (s := s.raise e) hfit hcount (by have := hd.1; dsimp only [State.raise_cfg]; omega)]
        exact .inl ⟨by omega, rfl, rfl, rfl, by dsimp only; ring, rfl⟩
      · have hwithin : 2 * s.timeout ≤ s.cfg.tMax := by have := hd.2 1 (by omega); omega
        rw [engFail_waits (s := s.raise e) hfit hcount hwithin]
        exact .inr ⟨d, rfl, doublingsLeft_double hd rfl rfl, by dsimp only; ring, by dsimp only [Fin.val_zero]; omega⟩

theorem corrupt_stream {frames : List (List Byte)} {s : State} {d : Nat} (h : s.Inv) (hs : s.state = .awaitingAck)
    (hd : s.DoublingsLeft d) (hframes : ∀ f ∈ frames, ¬ Intact s.cfg f) :
    (frames.length + s.dupCount.val < 3 * d →
      ∃ t, execAll (frames.map .rx) s = .next t ∧ t.state = .awaitingAck ∧ t.result = .none) ∧
    (frames.length + s.dupCount.val = 3 * d →
      ∃ t, execAll (frames.map .rx) s = .next t ∧ t.state = .aborted ∧ t.result = .fatalTimeoutCeilingExceeded ∧
        t.timeout = s.timeout * 2 ^ d ∧ t.dupCount = 0 ∧
        t.txs = s.txs ++ List.replicate frames.length s.storedFrame) := by
  induction frames generalizing s d with
  | nil =>
    refine ⟨fun _ => ⟨s, rfl, hs, result_eq_none_awaiting h hs⟩, fun hlen => ?_⟩
    have hzero : d = 0 := by
      have := s.dupCount.isLt
      simp only [List.length_nil] at hlen
      omega
    subst hzero
    exact absurd (by simpa using hd.1) (not_lt.mpr (timeout_le_tMax h hs))
  | cons f frames ih =>
    have hexec := exec_rx_corrupt hs (hframes f List.mem_cons_self)
    have htxs : (s.raise .corruptedFrame).engFail.txs = s.txs ++ [s.storedFrame] := by
      rw [txs_engFail, txs_raise]
      rfl
    have hbuffers : SameBuffers s (s.raise .corruptedFrame).engFail := (sameBuffers_engFail _).of_raise
    have hinv : (s.raise .corruptedFrame).engFail.Inv := inv_engFail (inv_raise _ h) hs
    rw [List.map_cons, execAll_cons hexec, List.length_cons]
    rcases failure_counts_down .corruptedFrame h hs hd with
      ⟨htwo, rfl, hstate, hresult, htimeout, hcount⟩ | ⟨k, hstate, hleft, htimeout, hcount⟩
    · refine ⟨fun hlen => absurd hlen (by omega), fun hlen => ?_⟩
      obtain rfl : frames = [] := List.eq_nil_of_length_eq_zero (by omega)
      exact ⟨_, rfl, hstate, hresult, htimeout, hcount, htxs⟩
    · obtain ⟨hshort, hexact⟩ := ih hinv hstate hleft fun g hg => by
        rw [hbuffers.cfg]
        exact hframes g (List.mem_cons_of_mem f hg)
      refine ⟨fun hlen => hshort (by omega), fun hlen => ?_⟩
      obtain ⟨t, hrun, hts, htr, htt, htd, htx⟩ := hexact (by omega)
      refine ⟨t, hrun, hts, htr, htt.trans htimeout, htd, ?_⟩
      rw [htx, htxs, hbuffers.storedFrame, List.append_assoc, List.replicate_succ, List.singleton_append]

/-- Settles O52: `3 * d - dup_count` failures are left, and each corrupt frame is one. -/
theorem corruptStreamAbortsExactly : Obligations.CorruptStreamAbortsExactly :=
  fun _ _ _ h hs habove hbelow hframes => corrupt_stream h hs ⟨habove, hbelow⟩ hframes

end Sys2Proof.Machine
end

section
/-! A session without losses, spec/44_sender_engine.md section 8: one round for each segment left. -/

namespace Sys2Proof.Machine

theorem intact_frBuild {c : Config} (seqnum acknum : Byte) {chunk : List Byte} (h : chunk.length ≤ c.mss) :
    Intact c (frBuild seqnum acknum chunk) :=
  (intact_iff _ _).mpr ⟨_, frParse_frBuild seqnum acknum h, ckVerify_frBuild seqnum acknum chunk, rfl⟩

theorem intact_segmentFrame (s : State) : Intact s.cfg s.segmentFrame :=
  intact_frBuild _ _ ((length_chunk s _ _).trans_le (Nat.min_le_left _ _))

/-- A pure ACK is a built frame without payload, and good where it carries the expected number. -/
theorem classify_ackFrame (s : State) (seqnum : Byte) : s.classify (ackFrame s.expectedAck seqnum) = .good :=
  (classify_good_iff s _).mpr ⟨intact_frBuild seqnum s.expectedAck (Nat.zero_le _), rfl⟩

/-- `XMIT`, an acknowledgment with acknum `a`, `NEXT`: the segment at `seg_off` is sent and confirmed. -/
structure CleanRound (s : State) (a : Byte) (t : State) : Prop where
  run : execAll [.xmit, .rx (ackFrame a 0x00), .next] s = .next t
  inv : t.Inv
  cfg : t.cfg = s.cfg
  payload : t.payload = s.payload
  payloadLen : t.payloadLen = s.payloadLen
  segOff : t.segOff = s.segOff + chunkLen s.cfg s.segOff s.payloadLen
  txs : t.txs = s.txs ++ [s.segmentFrame]
  state : t.state = if t.segOff < s.payloadLen then .idle else .completed

theorem exists_cleanRound {s : State} (h : s.Inv) (hs : s.state = .idle) : ∃ a t, CleanRound s a t := by
  obtain ⟨hvalid, -, -, ⟨-, hleft, -⟩, -⟩ := id h
  have hsent : s.sendSegment.Inv := inv_sendSegment h hs
  have hgood := inv_goodArm hsent rfl
  have hrx : exec (.rx (ackFrame s.sendSegment.expectedAck 0x00)) s.sendSegment = .next s.sendSegment.goodArm := by
    rw [exec_rx_awaiting _ rfl, classify_ackFrame, rxArm_good]
  have htxs : s.sendSegment.goodArm.txs = s.txs ++ [s.segmentFrame] := by
    rw [← rxArm_good, txs_rxArm, if_pos rfl, List.append_nil, txs_sendSegment]
  obtain ⟨hcfg, hpayload, hlen, hsegOff⟩ : s.sendSegment.goodArm.cfg = s.cfg ∧
      s.sendSegment.goodArm.payload = s.payload ∧ s.sendSegment.goodArm.payloadLen = s.payloadLen ∧
      s.sendSegment.goodArm.segOff = s.segOff + chunkLen s.cfg s.segOff s.payloadLen := by
    rw [goodArm_eq_of_inv hsent rfl, sendSegment_eq hvalid]
    dsimp only
    rw [length_segmentFrame, Nat.add_sub_cancel_left]
    exact ⟨rfl, rfl, rfl, rfl⟩
  refine ⟨s.sendSegment.expectedAck, s.sendSegment.goodArm.afterNext, ?_, inv_afterNext hgood rfl, hcfg, hpayload, hlen,
    hsegOff, htxs, ?_⟩
  · rw [execAll_cons (exec_xmit_idle hs (hleft (.inl hs))), execAll_cons hrx, execAll_cons (exec_next_advancing rfl),
      execAll_nil]
  · rw [State.afterNext, hlen]

theorem payBytes_congr {s t : State} (hpayload : t.payload = s.payload) (hlen : t.payloadLen = s.payloadLen)
    (off count : Nat) : t.payBytes off count = s.payBytes off count := by
  simp only [State.payBytes, State.payRead, hpayload, hlen]

theorem segmentFrame_drop_header (s : State) :
    s.segmentFrame.drop 3 = s.payBytes s.segOff (chunkLen s.cfg s.segOff s.payloadLen) := rfl

/-- One good acknowledgment after another completes the session and delivers the payload from `seg_off` on. -/
structure CleanRun (s : State) (acknums : List Byte) (frames : List (List Byte)) (t : State) : Prop where
  count : acknums.length = (s.payloadLen - s.segOff + s.cfg.mss - 1) / s.cfg.mss
  run : execAll (acknums.flatMap (fun a => [.xmit, .rx (ackFrame a 0x00), .next])) s = .next t
  completed : t.state = .completed
  ok : t.result = .ok
  delivered : t.segOff = s.payloadLen
  sent : t.txs = s.txs ++ frames
  one_each : frames.length = acknums.length
  intact : ∀ f ∈ frames, Intact s.cfg f
  bytes : (frames.map (fun f => f.drop 3)).flatten = s.payBytes s.segOff (s.payloadLen - s.segOff)

section
variable {s w : State} {a : Byte} (h : s.Inv) (hround : CleanRound s a w)
include h hround

/-- The round of the last segment. -/
theorem cleanRun_last (hs : s.state = .idle) (hlast : s.payloadLen ≤ w.segOff) : CleanRun s [a] [s.segmentFrame] w := by
  obtain ⟨⟨hmss, -⟩, -, -, ⟨-, hleft, -⟩, -⟩ := h
  have hbytes := hleft (.inl hs)
  obtain ⟨-, -, -, ⟨hle, -, -⟩, -, ⟨hok, -⟩, -, -⟩ := hround.inv
  have hsegOff := hround.segOff
  have hlen := hround.payloadLen
  have hchunk : chunkLen s.cfg s.segOff s.payloadLen = s.payloadLen - s.segOff := by omega
  have hcompleted : w.state = .completed := hround.state.trans (if_neg (not_lt.mpr hlast))
  have hcount : 1 = (s.payloadLen - s.segOff + s.cfg.mss - 1) / s.cfg.mss := by
    have hsome := lt_ceil_iff hmss 0 (s.payloadLen - s.segOff)
    have hone := lt_ceil_iff hmss 1 (s.payloadLen - s.segOff)
    rw [chunkLen] at hchunk
    omega
  refine ⟨hcount, hround.run, hcompleted, hok.mpr hcompleted, by omega, hround.txs, rfl, ?_, ?_⟩
  · simpa using intact_segmentFrame s
  · rw [List.map_singleton, List.flatten_singleton, segmentFrame_drop_header, hchunk]

/-- A round before the last segment, and the run from there. -/
theorem cleanRun_cons {acknums : List Byte} {frames : List (List Byte)} {t : State} (hmore : w.segOff < s.payloadLen)
    (hrun : CleanRun w acknums frames t) : CleanRun s (a :: acknums) (s.segmentFrame :: frames) t := by
  obtain ⟨⟨hmss, -⟩, -⟩ := h
  have hsegOff := hround.segOff
  have hfull : chunkLen s.cfg s.segOff s.payloadLen = s.cfg.mss := by rw [chunkLen] at hsegOff ⊢; omega
  rw [hfull] at hsegOff
  have hcount : (s.payloadLen - s.segOff + s.cfg.mss - 1) / s.cfg.mss =
      (w.payloadLen - w.segOff + w.cfg.mss - 1) / w.cfg.mss + 1 := by
    rw [hround.payloadLen, hround.cfg, ← Nat.add_div_right _ (by omega)]
    congr 1
    omega
  refine ⟨by rw [hcount, ← hrun.count, List.length_cons], ?_, hrun.completed, hrun.ok,
    hrun.delivered.trans hround.payloadLen, ?_, by rw [List.length_cons, List.length_cons, hrun.one_each], ?_, ?_⟩
  · rw [List.flatMap_cons, execAll_append hround.run, hrun.run]
  · rw [hrun.sent, hround.txs, List.append_assoc, List.singleton_append]
  · exact List.forall_mem_cons.mpr ⟨intact_segmentFrame s, hround.cfg ▸ hrun.intact⟩
  · rw [List.map_cons, List.flatten_cons, hrun.bytes, segmentFrame_drop_header, hfull,
      payBytes_congr hround.payload hround.payloadLen, hsegOff, hround.payloadLen, ← payBytes_add]
    congr 1
    omega

end

theorem exists_cleanRun {s : State} (h : s.Inv) (hs : s.state = .idle) :
    ∃ acknums frames t, CleanRun s acknums frames t := by
  induction hn : s.payloadLen - s.segOff using Nat.strong_induction_on generalizing s with
  | _ n ih =>
    obtain ⟨a, w, hround⟩ := exists_cleanRound h hs
    rcases Nat.lt_or_ge w.segOff s.payloadLen with hmore | hlast
    · have hshorter : w.payloadLen - w.segOff < n := by
        obtain ⟨hvalid, -, -, ⟨-, hleft, -⟩, -⟩ := h
        have hone := chunkLen_pos hvalid (hleft (.inl hs))
        have hlen := hround.payloadLen
        have hsegOff := hround.segOff
        omega
      obtain ⟨acknums, frames, t, hrun⟩ := ih _ hshorter hround.inv (hround.state.trans (if_pos hmore)) rfl
      exact ⟨_, _, _, cleanRun_cons h hround hmore hrun⟩
    · exact ⟨_, _, _, cleanRun_last h hround hs hlast⟩

/-- Settles O53: rounds until the payload is confirmed. -/
theorem cleanSessionDeliversThePayload : Obligations.CleanSessionDeliversThePayload := by
  intro s h hs
  obtain ⟨acknums, frames, t, hrun⟩ := exists_cleanRun h hs
  exact ⟨acknums, frames, t, hrun.count, hrun.run, hrun.completed, hrun.ok, hrun.delivered, hrun.sent, hrun.one_each,
    hrun.intact, hrun.bytes⟩

end Sys2Proof.Machine
end
